-- ==== Sys2Proof/Word.lean ====
section
/-! DEFINITION. The words and names every other file speaks in: bytes and time stamps, validity marks
(R4), the indexed things of the introduction (R1, R2, R3) and tables with one entry for each of them. -/

namespace Sys2Proof

/-- A byte on a port or on the telegram line. -/
abbrev Byte := BitVec 8

/-- A reading of a 32-bit counter: the millisecond time counter of R3, or the microsecond time of R16. -/
abbrev Stamp := BitVec 32

/-- Microseconds that pass before a command is taken, counted from the command before it. -/
abbrev Delay := Nat

/-- The validity marks of R4, from best to worst. -/
inductive Mark where
  | valid | degraded | lost
deriving DecidableEq, Repr

/-- A quantity with its validity mark (R4). -/
structure Marked where
  val : Int
  mark : Mark
deriving DecidableEq, Repr

/-- The eleven analog inputs, in the index order of R2. -/
inductive InputId where
  | pdML | pdMR | pdLL | pdLR | pcl | psr | pbl | pbr | pbx | alat | vsol
deriving DecidableEq, Repr

/-- Every InputId, in index order. -/
def InputId.list : List InputId :=
  [.pdML, .pdMR, .pdLL, .pdLR, .pcl, .psr, .pbl, .pbr, .pbx, .alat, .vsol]

/-- The six wheel ends, in the index order of R2. -/
inductive WheelEnd where
  | w1L | w1R | w2L | w2R | w3L | w3R
deriving DecidableEq, Repr

/-- Every WheelEnd, in index order. -/
def WheelEnd.list : List WheelEnd :=
  [.w1L, .w1R, .w2L, .w2R, .w3L, .w3R]

/-- The four channels, in the index order of R2. -/
inductive Channel where
  | ml | mr | ll | lr
deriving DecidableEq, Repr

/-- Every Channel, in index order. -/
def Channel.list : List Channel :=
  [.ml, .mr, .ll, .lr]

/-- The twelve tyre positions, in the index order of R3. -/
inductive Tyre where
  | t1LO | t1LI | t1RI | t1RO | t2LO | t2LI | t2RI | t2RO | t3LO | t3LI | t3RI | t3RO
deriving DecidableEq, Repr

/-- Every Tyre, in index order. -/
def Tyre.list : List Tyre :=
  [.t1LO, .t1LI, .t1RI, .t1RO, .t2LO, .t2LI, .t2RI, .t2RO, .t3LO, .t3LI, .t3RI, .t3RO]

/-- The four store sections, in the order of R178. -/
inductive Section where
  | brakeConfig | tyreConfig | calibration | bindings
deriving DecidableEq, Repr

/-- Every Section, in index order. -/
def Section.list : List Section :=
  [.brakeConfig, .tyreConfig, .calibration, .bindings]

/-- The three bellows inputs, in the order of R55. -/
inductive Bellows where
  | pbl | pbr | pbx
deriving DecidableEq, Repr

/-- Every Bellows, in index order. -/
def Bellows.list : List Bellows :=
  [.pbl, .pbr, .pbx]

/-- The twenty status conditions, in the number order of R186. -/
inductive Condition where
  | standstill | braking | electric | passthrough | antilockAny | rollActive | liftDown | liftUp | tyreAlarmUnacked | tyreFlatAny | tyreMissingAny | warnLine | severeLine | logOverrun | storeBusy | commitPending | calOpen | learnOpen | supplyLow | snapshotReady
deriving DecidableEq, Repr

/-- Every Condition, in index order. -/
def Condition.list : List Condition :=
  [.standstill, .braking, .electric, .passthrough, .antilockAny, .rollActive, .liftDown, .liftUp, .tyreAlarmUnacked, .tyreFlatAny, .tyreMissingAny, .warnLine, .severeLine, .logOverrun, .storeBusy, .commitPending, .calOpen, .learnOpen, .supplyLow, .snapshotReady]

/-- The three ports (chapter 10). -/
inductive Port where
  | a | b | t
deriving DecidableEq, Repr

/-- The two SPI ports, which are also the two controllers that send demands (R83, R182). -/
inductive Controller where
  | a | b
deriving DecidableEq, Repr

/-- The port of a controller. -/
def Controller.port : Controller → Port
  | .a => .a
  | .b => .b

/-- The controller on the other SPI port. -/
def Controller.other : Controller → Controller
  | .a => .b
  | .b => .a

/-- The controller of a port; port T has none. -/
def Port.controller : Port → Option Controller
  | .a => some .a
  | .b => some .b
  | .t => none

/-- The sides of the trailer, seen facing forward (R3). -/
inductive Side where
  | left | right
deriving DecidableEq, Repr

/-- The other side. -/
def Side.other : Side → Side
  | .left => .right
  | .right => .left

/-- The three coils of a channel (introduction, Coils). -/
inductive CoilFn where
  | inlet | exhaust | backup
deriving DecidableEq, Repr

/-- The thirteen coils: three for each channel, and LIFT. -/
inductive Coil where
  | of (c : Channel) (f : CoilFn)
  | lift
deriving DecidableEq, Repr

/-- Every coil, in the patrol order of R133. -/
def Coil.list : List Coil :=
  [.of .ml .inlet, .of .ml .exhaust, .of .ml .backup, .of .mr .inlet, .of .mr .exhaust, .of .mr .backup,
    .of .ll .inlet, .of .ll .exhaust, .of .ll .backup, .of .lr .inlet, .of .lr .exhaust, .of .lr .backup, .lift]

/-- What a hard reset finds in a store section, as against what the part last wrote there (R179): the
content as it stands, content damaged by the medium, or erased content. -/
inductive Found where
  | asStored | damaged | erased
deriving DecidableEq, Repr

/-- What a test of a coil finds against its thresholds (R132, R133). -/
inductive TestResult where
  | pass | openCircuit | short
deriving DecidableEq, Repr

/-- One entry for each analog input. -/
structure PerInput (α : Type) where
  pdML : α
  pdMR : α
  pdLL : α
  pdLR : α
  pcl : α
  psr : α
  pbl : α
  pbr : α
  pbx : α
  alat : α
  vsol : α
deriving DecidableEq, Repr

/-- The entry of `i`. -/
def PerInput.get {α : Type} (t : PerInput α) (i : InputId) : α :=
  match i with
  | .pdML => t.pdML
  | .pdMR => t.pdMR
  | .pdLL => t.pdLL
  | .pdLR => t.pdLR
  | .pcl => t.pcl
  | .psr => t.psr
  | .pbl => t.pbl
  | .pbr => t.pbr
  | .pbx => t.pbx
  | .alat => t.alat
  | .vsol => t.vsol

/-- The table with the entry of `i` replaced. -/
def PerInput.set {α : Type} (t : PerInput α) (i : InputId) (x : α) : PerInput α :=
  match i with
  | .pdML => { t with pdML := x }
  | .pdMR => { t with pdMR := x }
  | .pdLL => { t with pdLL := x }
  | .pdLR => { t with pdLR := x }
  | .pcl => { t with pcl := x }
  | .psr => { t with psr := x }
  | .pbl => { t with pbl := x }
  | .pbr => { t with pbr := x }
  | .pbx => { t with pbx := x }
  | .alat => { t with alat := x }
  | .vsol => { t with vsol := x }

/-- The table with one value everywhere. -/
def PerInput.all {α : Type} (x : α) : PerInput α :=
  ⟨x, x, x, x, x, x, x, x, x, x, x⟩

/-- One entry for each wheel end. -/
structure PerWheel (α : Type) where
  w1L : α
  w1R : α
  w2L : α
  w2R : α
  w3L : α
  w3R : α
deriving DecidableEq, Repr

/-- The entry of `i`. -/
def PerWheel.get {α : Type} (t : PerWheel α) (i : WheelEnd) : α :=
  match i with
  | .w1L => t.w1L
  | .w1R => t.w1R
  | .w2L => t.w2L
  | .w2R => t.w2R
  | .w3L => t.w3L
  | .w3R => t.w3R

/-- The table with the entry of `i` replaced. -/
def PerWheel.set {α : Type} (t : PerWheel α) (i : WheelEnd) (x : α) : PerWheel α :=
  match i with
  | .w1L => { t with w1L := x }
  | .w1R => { t with w1R := x }
  | .w2L => { t with w2L := x }
  | .w2R => { t with w2R := x }
  | .w3L => { t with w3L := x }
  | .w3R => { t with w3R := x }

/-- The table with one value everywhere. -/
def PerWheel.all {α : Type} (x : α) : PerWheel α :=
  ⟨x, x, x, x, x, x⟩

/-- One entry for each channel. -/
structure PerChannel (α : Type) where
  ml : α
  mr : α
  ll : α
  lr : α
deriving DecidableEq, Repr

/-- The entry of `i`. -/
def PerChannel.get {α : Type} (t : PerChannel α) (i : Channel) : α :=
  match i with
  | .ml => t.ml
  | .mr => t.mr
  | .ll => t.ll
  | .lr => t.lr

/-- The table with the entry of `i` replaced. -/
def PerChannel.set {α : Type} (t : PerChannel α) (i : Channel) (x : α) : PerChannel α :=
  match i with
  | .ml => { t with ml := x }
  | .mr => { t with mr := x }
  | .ll => { t with ll := x }
  | .lr => { t with lr := x }

/-- The table with one value everywhere. -/
def PerChannel.all {α : Type} (x : α) : PerChannel α :=
  ⟨x, x, x, x⟩

/-- One entry for each tyre position. -/
structure PerTyre (α : Type) where
  t1LO : α
  t1LI : α
  t1RI : α
  t1RO : α
  t2LO : α
  t2LI : α
  t2RI : α
  t2RO : α
  t3LO : α
  t3LI : α
  t3RI : α
  t3RO : α
deriving DecidableEq, Repr

/-- The entry of `i`. -/
def PerTyre.get {α : Type} (t : PerTyre α) (i : Tyre) : α :=
  match i with
  | .t1LO => t.t1LO
  | .t1LI => t.t1LI
  | .t1RI => t.t1RI
  | .t1RO => t.t1RO
  | .t2LO => t.t2LO
  | .t2LI => t.t2LI
  | .t2RI => t.t2RI
  | .t2RO => t.t2RO
  | .t3LO => t.t3LO
  | .t3LI => t.t3LI
  | .t3RI => t.t3RI
  | .t3RO => t.t3RO

/-- The table with the entry of `i` replaced. -/
def PerTyre.set {α : Type} (t : PerTyre α) (i : Tyre) (x : α) : PerTyre α :=
  match i with
  | .t1LO => { t with t1LO := x }
  | .t1LI => { t with t1LI := x }
  | .t1RI => { t with t1RI := x }
  | .t1RO => { t with t1RO := x }
  | .t2LO => { t with t2LO := x }
  | .t2LI => { t with t2LI := x }
  | .t2RI => { t with t2RI := x }
  | .t2RO => { t with t2RO := x }
  | .t3LO => { t with t3LO := x }
  | .t3LI => { t with t3LI := x }
  | .t3RI => { t with t3RI := x }
  | .t3RO => { t with t3RO := x }

/-- The table with one value everywhere. -/
def PerTyre.all {α : Type} (x : α) : PerTyre α :=
  ⟨x, x, x, x, x, x, x, x, x, x, x, x⟩

/-- One entry for each store section. -/
structure PerSection (α : Type) where
  brakeConfig : α
  tyreConfig : α
  calibration : α
  bindings : α
deriving DecidableEq, Repr

/-- The entry of `i`. -/
def PerSection.get {α : Type} (t : PerSection α) (i : Section) : α :=
  match i with
  | .brakeConfig => t.brakeConfig
  | .tyreConfig => t.tyreConfig
  | .calibration => t.calibration
  | .bindings => t.bindings

/-- The table with the entry of `i` replaced. -/
def PerSection.set {α : Type} (t : PerSection α) (i : Section) (x : α) : PerSection α :=
  match i with
  | .brakeConfig => { t with brakeConfig := x }
  | .tyreConfig => { t with tyreConfig := x }
  | .calibration => { t with calibration := x }
  | .bindings => { t with bindings := x }

/-- The table with one value everywhere. -/
def PerSection.all {α : Type} (x : α) : PerSection α :=
  ⟨x, x, x, x⟩

/-- One entry for each bellows input. -/
structure PerBellows (α : Type) where
  pbl : α
  pbr : α
  pbx : α
deriving DecidableEq, Repr

/-- The entry of `i`. -/
def PerBellows.get {α : Type} (t : PerBellows α) (i : Bellows) : α :=
  match i with
  | .pbl => t.pbl
  | .pbr => t.pbr
  | .pbx => t.pbx

/-- The table with the entry of `i` replaced. -/
def PerBellows.set {α : Type} (t : PerBellows α) (i : Bellows) (x : α) : PerBellows α :=
  match i with
  | .pbl => { t with pbl := x }
  | .pbr => { t with pbr := x }
  | .pbx => { t with pbx := x }

/-- The table with one value everywhere. -/
def PerBellows.all {α : Type} (x : α) : PerBellows α :=
  ⟨x, x, x⟩

/-- One entry for each controller. -/
structure PerController (α : Type) where
  a : α
  b : α
deriving DecidableEq, Repr

/-- The entry of `i`. -/
def PerController.get {α : Type} (t : PerController α) (i : Controller) : α :=
  match i with
  | .a => t.a
  | .b => t.b

/-- The table with the entry of `i` replaced. -/
def PerController.set {α : Type} (t : PerController α) (i : Controller) (x : α) : PerController α :=
  match i with
  | .a => { t with a := x }
  | .b => { t with b := x }

/-- The table with one value everywhere. -/
def PerController.all {α : Type} (x : α) : PerController α :=
  ⟨x, x⟩

/-- One entry for each port. -/
structure PerPort (α : Type) where
  a : α
  b : α
  t : α
deriving DecidableEq, Repr

/-- The entry of `i`. -/
def PerPort.get {α : Type} (t : PerPort α) (i : Port) : α :=
  match i with
  | .a => t.a
  | .b => t.b
  | .t => t.t

/-- The table with the entry of `i` replaced. -/
def PerPort.set {α : Type} (t : PerPort α) (i : Port) (x : α) : PerPort α :=
  match i with
  | .a => { t with a := x }
  | .b => { t with b := x }
  | .t => { t with t := x }

/-- The table with one value everywhere. -/
def PerPort.all {α : Type} (x : α) : PerPort α :=
  ⟨x, x, x⟩

/-- One entry for each coil. -/
structure PerCoil (α : Type) where
  inlet : PerChannel α
  exhaust : PerChannel α
  backup : PerChannel α
  lift : α
deriving DecidableEq, Repr

/-- The entry of a coil. -/
def PerCoil.get {α : Type} (t : PerCoil α) (k : Coil) : α :=
  match k with
  | .of c .inlet => t.inlet.get c
  | .of c .exhaust => t.exhaust.get c
  | .of c .backup => t.backup.get c
  | .lift => t.lift

/-- The table with the entry of a coil replaced. -/
def PerCoil.set {α : Type} (t : PerCoil α) (k : Coil) (x : α) : PerCoil α :=
  match k with
  | .of c .inlet => { t with inlet := t.inlet.set c x }
  | .of c .exhaust => { t with exhaust := t.exhaust.set c x }
  | .of c .backup => { t with backup := t.backup.set c x }
  | .lift => { t with lift := x }

/-- The table with one value everywhere. -/
def PerCoil.all {α : Type} (x : α) : PerCoil α :=
  ⟨.all x, .all x, .all x, x⟩

end Sys2Proof
end

