-- ==== Sys2Proof/Syntax.lean ====
section
/-! DEFINITION. The commands of the part: one constructor for each row of spec/opcode_table.json.
A row is a command frame taken on a port, a byte or a sample that arrives, a result of the medium or
of a coil test, or a timer of the part that runs out. -/

namespace Sys2Proof

/-- The guard a command frame may carry (R181): a condition and the level it is expected to have. -/
structure Guard where
  cond : Condition
  level : Bool
deriving DecidableEq, Repr

/-- The commands. `dt` is the time in microseconds since the command before. A row that is a command
of R185 carries the port it came on, its guard, and its payload as raw bytes, that is, the content
of a frame whose frame check of R183 has passed. -/
inductive Instr where
  /-- HARD_RESET (R179): `found` says what the reset finds in each store section. -/
  | hardReset (found : PerSection Found)
  /-- SPI_TRANSACTION_BEGIN (R182). -/
  | spiTransactionBegin (dt : Delay) (p : Controller)
  /-- NULL_FRAME (R182). -/
  | nullFrame (dt : Delay) (p : Controller)
  /-- BAD_FRAME (R183): the bytes received, from the length byte on. -/
  | badFrame (dt : Delay) (p : Port) (bytes : List Byte)
  /-- PORT_T_FRAME_GAP (R182). -/
  | portTFrameGap (dt : Delay)
  /-- PORT_T_FRAMING_ERROR (R182). -/
  | portTFramingError (dt : Delay)
  /-- PORT_T_FRAME_DROPPED (R182). -/
  | portTFrameDropped (dt : Delay)
  /-- PORT_T_RESPONSE_SENT (R182). -/
  | portTResponseSent (dt : Delay)
  /-- DEMAND (R83). -/
  | demand (dt : Delay) (p : Port) (g : Option Guard) (payload : List Byte)
  /-- RESUME_ELECTRIC (R91). -/
  | resumeElectric (dt : Delay) (p : Port) (g : Option Guard) (payload : List Byte)
  /-- CLEAR_PASSTHROUGH (R95). -/
  | clearPassthrough (dt : Delay) (p : Port) (g : Option Guard) (payload : List Byte)
  /-- JOINT_RESET (R192). -/
  | jointReset (dt : Delay) (p : Port) (g : Option Guard) (payload : List Byte)
  /-- CHANNEL_RESTORE (R137). -/
  | channelRestore (dt : Delay) (p : Port) (g : Option Guard) (payload : List Byte)
  /-- CLEAR_FIRST (R166). -/
  | clearFirst (dt : Delay) (p : Port) (g : Option Guard) (payload : List Byte)
  /-- COMMIT_BRAKE (R175). -/
  | commitBrake (dt : Delay) (p : Port) (g : Option Guard) (payload : List Byte)
  /-- STAGE (R173). -/
  | stage (dt : Delay) (p : Port) (g : Option Guard) (payload : List Byte)
  /-- CONFIRM_BRAKE (R176). -/
  | confirmBrake (dt : Delay) (p : Port) (g : Option Guard) (payload : List Byte)
  /-- DISCARD_BRAKE (R176). -/
  | discardBrake (dt : Delay) (p : Port) (g : Option Guard) (payload : List Byte)
  /-- COMMIT_TYRE (R174). -/
  | commitTyre (dt : Delay) (p : Port) (g : Option Guard) (payload : List Byte)
  /-- LIFT_REQUEST (R79). -/
  | liftRequest (dt : Delay) (p : Port) (g : Option Guard) (payload : List Byte)
  /-- LEARN (R45). -/
  | learn (dt : Delay) (p : Port) (g : Option Guard) (payload : List Byte)
  /-- UNBIND (R48). -/
  | unbind (dt : Delay) (p : Port) (g : Option Guard) (payload : List Byte)
  /-- TYRE_ACK_SET (R42). -/
  | tyreAckSet (dt : Delay) (p : Port) (g : Option Guard) (payload : List Byte)
  /-- TYRE_ACK_CLEAR (R42). -/
  | tyreAckClear (dt : Delay) (p : Port) (g : Option Guard) (payload : List Byte)
  /-- CLEAR_INACTIVE (R168). -/
  | clearInactive (dt : Delay) (p : Port) (g : Option Guard) (payload : List Byte)
  /-- CAL_OPEN (R64). -/
  | calOpen (dt : Delay) (p : Port) (g : Option Guard) (payload : List Byte)
  /-- CAL_CAPTURE (R65). -/
  | calCapture (dt : Delay) (p : Port) (g : Option Guard) (payload : List Byte)
  /-- CAL_APPLY (R66). -/
  | calApply (dt : Delay) (p : Port) (g : Option Guard) (payload : List Byte)
  /-- CAL_REVERT (R67). -/
  | calRevert (dt : Delay) (p : Port) (g : Option Guard) (payload : List Byte)
  /-- CAL_CLOSE (R68). -/
  | calClose (dt : Delay) (p : Port) (g : Option Guard) (payload : List Byte)
  /-- SNAPSHOT_INTERVAL (R191). -/
  | snapshotInterval (dt : Delay) (p : Port) (g : Option Guard) (payload : List Byte)
  /-- READ_RECORD (R188). -/
  | readRecord (dt : Delay) (p : Port) (g : Option Guard) (payload : List Byte)
  /-- IDENTIFY (R188). -/
  | identify (dt : Delay) (p : Port) (g : Option Guard) (payload : List Byte)
  /-- SUBSCRIBE_SET (R189). -/
  | subscribeSet (dt : Delay) (p : Port) (g : Option Guard) (payload : List Byte)
  /-- SUBSCRIBE_CLEAR (R189). -/
  | subscribeClear (dt : Delay) (p : Port) (g : Option Guard) (payload : List Byte)
  /-- TAKE_EVENTS (R190). -/
  | takeEvents (dt : Delay) (p : Port) (g : Option Guard) (payload : List Byte)
  /-- PEEK_EVENTS (R190). -/
  | peekEvents (dt : Delay) (p : Port) (g : Option Guard) (payload : List Byte)
  /-- PORT_RESET (R193). -/
  | portReset (dt : Delay) (p : Port) (g : Option Guard) (payload : List Byte)
  /-- ANALOG_SAMPLE (R5). -/
  | analogSample (dt : Delay) (i : InputId) (reading : Int) (openWire : Bool)
  /-- INPUT_HOLD_EXPIRY (R12). -/
  | inputHoldExpiry (dt : Delay) (i : InputId)
  /-- SETTLING_BAD_RUN_EXPIRY (R14). -/
  | settlingBadRunExpiry (dt : Delay) (i : InputId)
  /-- TOOTH_EDGE (R16). -/
  | toothEdge (dt : Delay) (w : WheelEnd)
  /-- WHEEL_EVALUATION (R17). -/
  | wheelEvaluation (dt : Delay)
  /-- OPEN_WIRE_APPEAR (R20). -/
  | openWireAppear (dt : Delay) (w : WheelEnd)
  /-- OPEN_WIRE_DISAPPEAR (R20). -/
  | openWireDisappear (dt : Delay) (w : WheelEnd)
  /-- WHEEL_HOLD_EXPIRY (R20). -/
  | wheelHoldExpiry (dt : Delay) (w : WheelEnd)
  /-- WHEEL_RECOVERY_EXPIRY (R21). -/
  | wheelRecoveryExpiry (dt : Delay) (w : WheelEnd)
  /-- SUPPLY_LOW_TIMER_EXPIRY (R22). -/
  | supplyLowTimerExpiry (dt : Delay)
  /-- SUPPLY_CLEAR_TIMER_EXPIRY (R23). -/
  | supplyClearTimerExpiry (dt : Delay)
  /-- TELEGRAM_LENGTH_REJECTED (R25). -/
  | telegramLengthRejected (dt : Delay) (byte : Byte)
  /-- TELEGRAM_FRAME (R26). -/
  | telegramFrame (dt : Delay) (byte : Byte)
  /-- TELEGRAM_GAP_TIMEOUT (R25). -/
  | telegramGapTimeout (dt : Delay)
  /-- TELEGRAM_FRAMING_ERROR (R25). -/
  | telegramFramingError (dt : Delay)
  /-- MISSING_DEADLINE_EXPIRY (R34). -/
  | missingDeadlineExpiry (dt : Delay) (y : Tyre)
  /-- LEARN_DEADLINE_EXPIRY (R47). -/
  | learnDeadlineExpiry (dt : Delay)
  /-- DRAG_TIMER_EXPIRY (R51). -/
  | dragTimerExpiry (dt : Delay) (w : WheelEnd)
  /-- RELEASE_TIMER_EXPIRY (R61). -/
  | releaseTimerExpiry (dt : Delay)
  /-- RAISE_TIMEOUT (R74). -/
  | raiseTimeout (dt : Delay)
  /-- LOWER_TIMEOUT (R78). -/
  | lowerTimeout (dt : Delay)
  /-- AUTO_TIMER_EXPIRY (R81). -/
  | autoTimerExpiry (dt : Delay)
  /-- BUTTON_INPUT_CHANGE (R80). -/
  | buttonInputChange (dt : Delay) (pressed : Bool)
  /-- BUTTON_DEBOUNCED (R80). -/
  | buttonDebounced (dt : Delay)
  /-- FRESHNESS_DEADLINE_EXPIRY (R84). -/
  | freshnessDeadlineExpiry (dt : Delay) (k : Controller)
  /-- HOLD_DEADLINE_EXPIRY (R90). -/
  | holdDeadlineExpiry (dt : Delay)
  /-- RESUME_WINDOW_COMPLETE (R92). -/
  | resumeWindowComplete (dt : Delay)
  /-- MISMATCH_TIMER_EXPIRY (R97). -/
  | mismatchTimerExpiry (dt : Delay)
  /-- SUPPLY_LOW_TIMER_1000 (R98). -/
  | supplyLowTimer1000 (dt : Delay)
  /-- REFERENCE_EVALUATION (R122). -/
  | referenceEvaluation (dt : Delay)
  /-- DUMP_DEADLINE_EXPIRY (R125). -/
  | dumpDeadlineExpiry (dt : Delay) (c : Channel)
  /-- ANTILOCK_HOLD_EXPIRY (R126). -/
  | antilockHoldExpiry (dt : Delay) (c : Channel)
  /-- REAPPLY_STEP (R127). -/
  | reapplyStep (dt : Delay) (c : Channel)
  /-- TRACKING_TIME_REACHED (R121). -/
  | trackingTimeReached (dt : Delay) (c : Channel)
  /-- SAFE_HOLD_EXPIRY (R131). -/
  | safeHoldExpiry (dt : Delay) (c : Channel)
  /-- CONVERGE_TIMEOUT (R139). -/
  | convergeTimeout (dt : Delay) (c : Channel)
  /-- ON_CHECK_EXPIRY (R132). -/
  | onCheckExpiry (dt : Delay) (k : Coil) (belowThreshold : Bool)
  /-- OVERCURRENT (R132). -/
  | overcurrent (dt : Delay) (k : Coil)
  /-- PATROL_VISIT (R133). -/
  | patrolVisit (dt : Delay) (result : TestResult)
  /-- PROBE_DEADLINE_EXPIRY (R152). -/
  | probeDeadlineExpiry (dt : Delay)
  /-- QUIET_TIMER_COMPLETE (R154). -/
  | quietTimerComplete (dt : Delay)
  /-- RECOVERY_STEP (R155). -/
  | recoveryStep (dt : Delay)
  /-- COMMIT_EXPIRY (R177). -/
  | commitExpiry (dt : Delay)
  /-- STORE_WRITE_END (R178). -/
  | storeWriteEnd (dt : Delay) (pass : Bool)
  /-- SNAPSHOT_TIMER_EXPIRY (R191). -/
  | snapshotTimerExpiry (dt : Delay)
  /-- JOINT_RESET_WINDOW_CLOSE (R192). -/
  | jointResetWindowClose (dt : Delay)
  /-- TELEGRAM_LINE_BYTE (R25). -/
  | telegramLineByte (dt : Delay) (byte : Byte)
  /-- PORT_T_BYTE (R182). -/
  | portTByte (dt : Delay) (byte : Byte)
deriving DecidableEq, Repr

end Sys2Proof
end

