-- ==== Sys2Proof/Decode.lean ====
section
/-! DEFINITION. The commands that a word spells. The opcode table gives no row any bits: a command of this
part is a frame taken on a port, a happening at a pin or a timer that runs out, not a word. -/

namespace Sys2Proof

/-- The command that the `nbits` low bits of `w` spell by the table's bits: none, for every word. -/
def decodeTableWord (_nbits _w : Nat) : Option Instr := none

end Sys2Proof
end

