-- ==== Sys2Proof/Config.lean ====
section
/-! DEFINITION. What the spec leaves open and the model leaves free: constants with no body, so that no proof
can rest on a value of theirs. -/

namespace Sys2Proof

/-- DESIGN CHOICE (safe), log entry 24. A free choice: where the spec lets several things inside one event, or a
publication and the end of the holdoff (log entry 45), be taken in either order, the model takes the order this
constant gives for the running index `State.choice`. -/
opaque Config.pick : Nat → Nat

/-- DESIGN CHOICE (safe), log entry 17. Whether the source noted for a cap is PSR where `p_max` and
PSR − `supply_margin` are equal (R101, R113 state no source for that case). -/
opaque Config.capTieIsPsr : Bool

end Sys2Proof
end

