-- ==== Sys2Proof/Machine/Arith.lean ====
section
/-! DEFINITION. The roundings of the introduction (Rounding), clamps, saturating counts, time stamps, and the
two cyclic redundancy checks (R175, R181). -/

namespace Sys2Proof.Machine

/-- Division rounded toward zero, the manual's default (introduction, Rounding). -/
def divZero (a b : Int) : Int := a.tdiv b

/-- Division rounded to nearest, a value exactly halfway rounding up (introduction, Rounding), for a
divisor above 0. -/
def divNearest (a b : Int) : Int := (2 * a + b) / (2 * b)

/-- The ceiling of half of `a` (R85). -/
def ceilHalf (a : Int) : Int := (a + 1) / 2

/-- `x` brought into the range from `lo` to `hi`. -/
def clamp (lo hi x : Int) : Int := max lo (min hi x)

/-- `x` rounded to the nearest 10, a value ending in exactly 5 rounding up (R56). -/
def roundTen (x : Int) : Int := divNearest x 10 * 10

/-- The magnitude of `x`. -/
def mag (x : Int) : Int := if x < 0 then -x else x

/-- A count that stays at `top` once there (R27, R44, R117, R167, R189). -/
def satIncr (top n : Nat) : Nat := if n < top then n + 1 else n

/-- The time from `t` to `now`, a difference of counter readings (R3, time counter). -/
def since (now t : Stamp) : Nat := (now - t).toNat

/-- A stamp `n` counts after `t`. -/
def after (t : Stamp) (n : Nat) : Stamp := t + BitVec.ofNat 32 n

/-- Whether the deadline `d` has been reached at `now`: DEDUCED, log entry 4, the difference of the two
readings lies in the lower half of the counter's range. -/
def reached (now d : Stamp) : Bool := decide (since now d < 2 ^ 31)

/-- Whether a deadline is present and reached. -/
def dueAt (now : Stamp) : Option Stamp → Bool
  | some d => reached now d
  | none => false

/-- Whether a timer that started at a stamp has run for at least `n`; a stopped timer has not. -/
def ranFor (now : Stamp) (n : Nat) : Option Stamp → Bool
  | some t => decide (n ≤ since now t)
  | none => false

/-- One bit through a CRC register of width `w`, most significant bit first. -/
def crcBit {w : Nat} (poly reg : BitVec w) (b : Bool) : BitVec w :=
  if xor reg.msb b then (reg <<< 1) ^^^ poly else reg <<< 1

/-- The bits of `x`, most significant first. -/
def bitsMsbFirst {w : Nat} (x : BitVec w) : List Bool :=
  (List.range w).map fun i => x.getMsbD i

/-- The CRC-8 of R181: polynomial 0x2F, initial value 0xFF, no reflection, no final inversion. -/
def crc8 (bytes : List Byte) : Byte :=
  (bytes.flatMap bitsMsbFirst).foldl (crcBit 0x2F#8) 0xFF#8

/-- The 16-bit digest CRC of R175: polynomial 0x1021, initial value 0xFFFF, no reflection, no final
inversion. -/
def crc16 (values : List (BitVec 16)) : BitVec 16 :=
  (values.flatMap bitsMsbFirst).foldl (crcBit 0x1021#16) 0xFFFF#16

end Sys2Proof.Machine
end

