-- ==== Sys2Proof/Machine/Params.lean ====
section
/-! DEFINITION. The parameters of both classes (R172): numbers, defaults and ranges as the chapters' tables
give them, the two parameter sets, and an accessor for each parameter by name. -/

namespace Sys2Proof.Machine

/-- A parameter's factory default and range. -/
structure ParamRow where
  default : Int
  lo : Int
  hi : Int
deriving DecidableEq, Repr

/-- Brake-class parameters 0 to 36 (R172): inputs and wheels (chapter 1), derates (section 2.13), loads
and lift (section 3.1), demand (section 4.1). The range of an `in_filter` is a set of four values
and is given by `brakeInRange`. -/
def brakeRowsLow : List ParamRow :=
  [⟨1, 1, 64⟩, ⟨1, 1, 64⟩, ⟨1, 1, 64⟩, ⟨1, 1, 64⟩, ⟨4, 1, 64⟩, ⟨16, 1, 64⟩, ⟨64, 1, 64⟩, ⟨64, 1, 64⟩,
    ⟨64, 1, 64⟩, ⟨4, 1, 64⟩, ⟨4, 1, 64⟩,
    ⟨200, 50, 1000⟩, ⟨100, 60, 160⟩, ⟨3250, 2500, 4000⟩, ⟨3250, 2500, 4000⟩, ⟨3250, 2500, 4000⟩,
    ⟨18000, 16000, 22000⟩,
    ⟨768, 256, 1024⟩, ⟨1024, 256, 1024⟩,
    ⟨7500, 2000, 20000⟩, ⟨27000, 10000, 44000⟩, ⟨150, 50, 500⟩, ⟨2000, 500, 10000⟩, ⟨0, 0, 1⟩,
    ⟨300, 0, 600⟩, ⟨13000, 4000, 20000⟩, ⟨16000, 5000, 24000⟩, ⟨30, 10, 100⟩, ⟨100, 50, 400⟩,
    ⟨6000, 2000, 30000⟩, ⟨8000, 2000, 30000⟩,
    ⟨100, 20, 500⟩, ⟨30, 10, 100⟩, ⟨250, 50, 1000⟩, ⟨500, 100, 5000⟩, ⟨100, 20, 500⟩, ⟨450, 200, 900⟩]

/-- Brake-class parameters 37 to 73 (R172): setpoint (section 5.1), channels (section 6.1), roll
(section 7.1). -/
def brakeRowsHigh : List ParamRow :=
  [⟨20, 0, 100⟩, ⟨6000, 2000, 20000⟩, ⟨18000, 3000, 24000⟩, ⟨1500, 0, 9000⟩, ⟨9000, 1000, 10000⟩,
    ⟨460, 256, 1024⟩, ⟨30, 0, 100⟩, ⟨850, 300, 1000⟩, ⟨850, 300, 1000⟩, ⟨850, 300, 1000⟩,
    ⟨850, 300, 1000⟩, ⟨30, 0, 200⟩,
    ⟨10, 2, 50⟩, ⟨80, 20, 300⟩, ⟨500, 100, 5000⟩, ⟨4, 1, 20⟩, ⟨150, 50, 500⟩, ⟨80, 20, 400⟩,
    ⟨150, 20, 1000⟩, ⟨60, 10, 500⟩, ⟨15, 2, 100⟩, ⟨0, 0, 1⟩, ⟨2000, 200, 10000⟩, ⟨2000, 200, 10000⟩,
    ⟨1, 0, 1⟩, ⟨550, 200, 900⟩, ⟨300, 200, 900⟩, ⟨40, 0, 200⟩, ⟨819, 512, 1000⟩, ⟨200, 100, 600⟩,
    ⟨1000, 200, 5000⟩, ⟨300, 100, 1000⟩, ⟨200, 50, 500⟩, ⟨60, 0, 200⟩, ⟨150, 0, 1000⟩,
    ⟨500, 0, 1000⟩, ⟨100, 20, 150⟩]

/-- Brake-class parameters 74 to 91 (R161, R172): the severity overrides in the order of the kind table
of R160. The default is DEFAULT (0); `lo` is the code of the kind's lowest allowed level (NOTE 1,
WARN 2, SEVERE 3), which for STORE_CHECK is WARN (R161). -/
def severityRows : List ParamRow :=
  [⟨0, 1, 3⟩, ⟨0, 1, 3⟩, ⟨0, 2, 3⟩, ⟨0, 3, 3⟩, ⟨0, 1, 3⟩, ⟨0, 2, 3⟩, ⟨0, 1, 3⟩, ⟨0, 2, 3⟩, ⟨0, 2, 3⟩,
    ⟨0, 2, 3⟩, ⟨0, 2, 3⟩, ⟨0, 3, 3⟩, ⟨0, 1, 3⟩, ⟨0, 1, 3⟩, ⟨0, 1, 3⟩, ⟨0, 1, 3⟩, ⟨0, 2, 3⟩, ⟨0, 3, 3⟩]

/-- The 92 brake-class parameters. -/
def brakeRows : List ParamRow := brakeRowsLow ++ brakeRowsHigh ++ severityRows

/-- Whether `v` lies in the range of brake-class parameter `n` (R172, R173, R161): one of 1, 4, 16 and 64
for an `in_filter`; DEFAULT or a level from the lowest allowed up for an override. -/
def brakeInRange (n : Nat) (v : Int) : Bool :=
  match brakeRows[n]? with
  | none => false
  | some r =>
    if n ≤ 10 then v == 1 || v == 4 || v == 16 || v == 64
    else if 74 ≤ n then v == 0 || (decide (r.lo ≤ v) && decide (v ≤ r.hi))
    else decide (r.lo ≤ v) && decide (v ≤ r.hi)

/-- Tyre-class parameters 0 to 12 (R172): references and fractions (R37), timeouts, trend (section 2.7). -/
def tyreRowsLow : List ParamRow :=
  [⟨800, 300, 1200⟩, ⟨800, 300, 1200⟩, ⟨800, 300, 1200⟩, ⟨150, 50, 400⟩, ⟨819, 512, 1023⟩,
    ⟨922, 512, 1023⟩, ⟨1229, 1025, 1536⟩, ⟨95, 60, 150⟩, ⟨360, 120, 1800⟩, ⟨60, 10, 300⟩,
    ⟨60, 10, 600⟩, ⟨600, 120, 3600⟩, ⟨20, 6, 200⟩]

/-- The sixteen fields of a decoder profile (section 2.2, R172). A flag offset of 128 means absent. The
range of the marker value, 0 to 2^width − 1, is completed by `tyreInRange`. -/
def profileRows : List ParamRow :=
  [⟨0, 0, 1⟩, ⟨8, 4, 16⟩, ⟨0, 0, 127⟩, ⟨8, 1, 8⟩, ⟨0, 0, 255⟩, ⟨8, 0, 127⟩, ⟨32, 8, 32⟩, ⟨40, 0, 127⟩,
    ⟨8, 4, 16⟩, ⟨64, 1, 255⟩, ⟨0, -512, 511⟩, ⟨48, 0, 127⟩, ⟨8, 0, 8⟩, ⟨-50, -128, 127⟩,
    ⟨128, 0, 128⟩, ⟨128, 0, 128⟩]

/-- The 77 tyre-class parameters. -/
def tyreRows : List ParamRow :=
  tyreRowsLow ++ profileRows ++ profileRows ++ profileRows ++ profileRows

/-- A set of the brake class: 92 values in number order (R172). -/
structure BrakeSet where
  vals : Vector Int 92
deriving DecidableEq, Repr

/-- A set of the tyre class: 77 values in number order (R172). -/
structure TyreSet where
  vals : Vector Int 77
deriving DecidableEq, Repr

/-- The factory defaults of the brake class. -/
def BrakeSet.factory : BrakeSet := ⟨⟨(brakeRows.map (·.default)).toArray, by decide⟩⟩

/-- The factory defaults of the tyre class. -/
def TyreSet.factory : TyreSet := ⟨⟨(tyreRows.map (·.default)).toArray, by decide⟩⟩

/-- The value of parameter `n`. -/
def BrakeSet.value (p : BrakeSet) (n : Nat) : Int := p.vals[n]?.getD 0

/-- The set with parameter `n` replaced. -/
def BrakeSet.write (p : BrakeSet) (n : Nat) (v : Int) : BrakeSet := ⟨p.vals.setIfInBounds n v⟩

/-- The value of parameter `n`. -/
def TyreSet.value (p : TyreSet) (n : Nat) : Int := p.vals[n]?.getD 0

/-- The set with parameter `n` replaced. -/
def TyreSet.write (p : TyreSet) (n : Nat) (v : Int) : TyreSet := ⟨p.vals.setIfInBounds n v⟩

/-- A decoder profile (section 2.2). -/
structure Profile where
  enabled : Bool
  length : Nat
  markerOff : Nat
  markerWidth : Nat
  markerValue : Nat
  idOff : Nat
  idWidth : Nat
  pressOff : Nat
  pressWidth : Nat
  pressStep : Int
  pressBias : Int
  tempOff : Nat
  tempWidth : Nat
  tempBias : Int
  alertOff : Option Nat
  lowBattOff : Option Nat
deriving DecidableEq, Repr

/-- A flag offset, 128 standing for absent (R172). -/
def flagOffset (v : Int) : Option Nat := if v = 128 then none else some v.toNat

/-- Profile `k` of a tyre set: parameters 13 + 16k to 28 + 16k (R172). -/
def TyreSet.profile (p : TyreSet) (k : Nat) : Profile :=
  let v := fun f => p.value (13 + 16 * k + f)
  { enabled := v 0 == 1
    length := (v 1).toNat
    markerOff := (v 2).toNat
    markerWidth := (v 3).toNat
    markerValue := (v 4).toNat
    idOff := (v 5).toNat
    idWidth := (v 6).toNat
    pressOff := (v 7).toNat
    pressWidth := (v 8).toNat
    pressStep := v 9
    pressBias := v 10
    tempOff := (v 11).toNat
    tempWidth := (v 12).toNat
    tempBias := v 13
    alertOff := flagOffset (v 14)
    lowBattOff := flagOffset (v 15) }

/-- R29: every present field ends within the payload, and the marker value fits its width. -/
def Profile.fits (q : Profile) : Bool :=
  let n := 8 * q.length
  let flagFits := fun (o : Option Nat) => match o with
    | none => true
    | some x => decide (x + 1 ≤ n)
  decide (q.markerOff + q.markerWidth ≤ n) && decide (q.idOff + q.idWidth ≤ n) &&
    decide (q.pressOff + q.pressWidth ≤ n) &&
    (q.tempWidth == 0 || decide (q.tempOff + q.tempWidth ≤ n)) &&
    flagFits q.alertOff && flagFits q.lowBattOff &&
    decide (q.markerValue < 2 ^ q.markerWidth)

/-- Whether `v` lies in the range of tyre-class parameter `n`, for the staged set `p` (R173). The range of
a marker value runs to 2^width − 1 for the marker width that `p` holds (section 2.2; DEDUCED, log
entry 19). -/
def tyreInRange (p : TyreSet) (n : Nat) (v : Int) : Bool :=
  match tyreRows[n]? with
  | none => false
  | some r =>
    decide (r.lo ≤ v) && decide (v ≤ r.hi) &&
      (if 13 ≤ n ∧ (n - 13) % 16 = 4 then
        decide (v < 2 ^ (p.profile ((n - 13) / 16)).markerWidth)
      else true)

/-- Whether parameter `n` of the tyre class is carried in two's complement: its range holds negative
values (R172). -/
def tyreSigned (n : Nat) : Bool :=
  match tyreRows[n]? with
  | none => false
  | some r => decide (r.lo < 0)

/-! Accessors of the brake class, by name (R172). Times are natural numbers of milliseconds. -/

def BrakeSet.inFilter (p : BrakeSet) (i : InputId) : Nat :=
  (p.value (match i with
    | .pdML => 0 | .pdMR => 1 | .pdLL => 2 | .pdLR => 3 | .pcl => 4 | .psr => 5 | .pbl => 6 | .pbr => 7
    | .pbx => 8 | .alat => 9 | .vsol => 10)).toNat
def BrakeSet.inHoldTime (p : BrakeSet) : Nat := (p.value 11).toNat
def BrakeSet.teethPerRev (p : BrakeSet) : Int := p.value 12
/-- The rolling circumference of the axle of a wheel end. -/
def BrakeSet.circ (p : BrakeSet) (w : WheelEnd) : Int :=
  p.value (match w with
    | .w1L | .w1R => 13
    | .w2L | .w2R => 14
    | .w3L | .w3R => 15)
def BrakeSet.vsolMin (p : BrakeSet) : Int := p.value 16
def BrakeSet.derateFlat (p : BrakeSet) : Int := p.value 17
def BrakeSet.derateLow (p : BrakeSet) : Int := p.value 18
def BrakeSet.tareTotal (p : BrakeSet) : Int := p.value 19
def BrakeSet.grossTotal (p : BrakeSet) : Int := p.value 20
def BrakeSet.loadHoldAlat (p : BrakeSet) : Int := p.value 21
def BrakeSet.loadReleaseTime (p : BrakeSet) : Nat := (p.value 22).toNat
def BrakeSet.liftAutoDefault (p : BrakeSet) : Bool := p.value 23 == 1
def BrakeSet.raiseSpeedMax (p : BrakeSet) : Int := p.value 24
def BrakeSet.raiseLoad (p : BrakeSet) : Int := p.value 25
def BrakeSet.lowerLoad (p : BrakeSet) : Int := p.value 26
def BrakeSet.pbxUpLimit (p : BrakeSet) : Int := p.value 27
def BrakeSet.pbxDownLimit (p : BrakeSet) : Int := p.value 28
def BrakeSet.raiseTimeout (p : BrakeSet) : Nat := (p.value 29).toNat
def BrakeSet.lowerTimeout (p : BrakeSet) : Nat := (p.value 30).toNat
def BrakeSet.demandTimeout (p : BrakeSet) : Nat := (p.value 31).toNat
def BrakeSet.agreeTol (p : BrakeSet) : Int := p.value 32
def BrakeSet.holdLimit (p : BrakeSet) : Nat := (p.value 33).toNat
def BrakeSet.resumeWindow (p : BrakeSet) : Nat := (p.value 34).toNat
def BrakeSet.mismatchTol (p : BrakeSet) : Int := p.value 35
def BrakeSet.psrLow (p : BrakeSet) : Int := p.value 36
def BrakeSet.crack (p : BrakeSet) : Int := p.value 37
def BrakeSet.mainLoadEmpty (p : BrakeSet) : Int := p.value 38
def BrakeSet.mainLoadLaden (p : BrakeSet) : Int := p.value 39
def BrakeSet.liftLoadEmpty (p : BrakeSet) : Int := p.value 40
def BrakeSet.liftLoadLaden (p : BrakeSet) : Int := p.value 41
def BrakeSet.gEmpty (p : BrakeSet) : Int := p.value 42
def BrakeSet.pMinApply (p : BrakeSet) : Int := p.value 43
/-- `p_max_ML`, `p_max_MR`, `p_max_LL` and `p_max_LR`. -/
def BrakeSet.pMax (p : BrakeSet) (c : Channel) : Int :=
  p.value (match c with | .ml => 44 | .mr => 45 | .ll => 46 | .lr => 47)
def BrakeSet.supplyMargin (p : BrakeSet) : Int := p.value 48
def BrakeSet.regBand (p : BrakeSet) : Int := p.value 49
def BrakeSet.trackTol (p : BrakeSet) : Int := p.value 50
def BrakeSet.trackTime (p : BrakeSet) : Nat := (p.value 51).toNat
def BrakeSet.decelStep (p : BrakeSet) : Int := p.value 52
def BrakeSet.slipEnter (p : BrakeSet) : Int := p.value 53
def BrakeSet.slipExit (p : BrakeSet) : Int := p.value 54
def BrakeSet.dumpMax (p : BrakeSet) : Nat := (p.value 55).toNat
def BrakeSet.holdTime (p : BrakeSet) : Nat := (p.value 56).toNat
def BrakeSet.reapplyStep (p : BrakeSet) : Int := p.value 57
/-- Whether `safe_action` is HOLD_THEN_PNEUMATIC. -/
def BrakeSet.holdThenPneumatic (p : BrakeSet) : Bool := p.value 58 == 1
def BrakeSet.safeHoldTime (p : BrakeSet) : Nat := (p.value 59).toNat
def BrakeSet.convergeTimeout (p : BrakeSet) : Nat := (p.value 60).toNat
def BrakeSet.rollEnable (p : BrakeSet) : Bool := p.value 61 == 1
def BrakeSet.thrEmpty (p : BrakeSet) : Int := p.value 62
def BrakeSet.thrFull (p : BrakeSet) : Int := p.value 63
def BrakeSet.tyrePenalty (p : BrakeSet) : Int := p.value 64
def BrakeSet.probeFrac (p : BrakeSet) : Int := p.value 65
def BrakeSet.probeMinSpeed (p : BrakeSet) : Int := p.value 66
def BrakeSet.probeHoldoff (p : BrakeSet) : Nat := (p.value 67).toNat
def BrakeSet.probeTime (p : BrakeSet) : Nat := (p.value 68).toNat
def BrakeSet.liftSlip (p : BrakeSet) : Int := p.value 69
def BrakeSet.pTest (p : BrakeSet) : Int := p.value 70
def BrakeSet.pIntInner (p : BrakeSet) : Int := p.value 71
def BrakeSet.pIntOuter (p : BrakeSet) : Int := p.value 72
def BrakeSet.exitHyst (p : BrakeSet) : Int := p.value 73
/-- The override of the fault kind at position `k` of the kind table of R160. -/
def BrakeSet.severityOverride (p : BrakeSet) (k : Nat) : Int := p.value (74 + k)

/-! Accessors of the tyre class, by name (R172). -/

/-- The cold pressure reference of the axle of a tyre position (R37). -/
def TyreSet.cold (p : TyreSet) (y : Tyre) : Int :=
  p.value (match y with
    | .t1LO | .t1LI | .t1RI | .t1RO => 0
    | .t2LO | .t2LI | .t2RI | .t2RO => 1
    | .t3LO | .t3LI | .t3RI | .t3RO => 2)
def TyreSet.flatLimit (p : TyreSet) : Int := p.value 3
def TyreSet.lowCritFrac (p : TyreSet) : Int := p.value 4
def TyreSet.lowWarnFrac (p : TyreSet) : Int := p.value 5
def TyreSet.highFrac (p : TyreSet) : Int := p.value 6
def TyreSet.hotLimit (p : TyreSet) : Int := p.value 7
/-- `missing_timeout`, in ms. -/
def TyreSet.missingTimeout (p : TyreSet) : Nat := (p.value 8).toNat * 1000
/-- `learn_timeout`, in ms. -/
def TyreSet.learnTimeout (p : TyreSet) : Nat := (p.value 9).toNat * 1000
/-- `trend_interval`, in ms. -/
def TyreSet.trendInterval (p : TyreSet) : Nat := (p.value 10).toNat * 1000
/-- `leak_window`, in ms. -/
def TyreSet.leakWindow (p : TyreSet) : Nat := (p.value 11).toNat * 1000
def TyreSet.leakDrop (p : TyreSet) : Int := p.value 12

/-- R175: the six cross-limits of the brake class. -/
def BrakeSet.crossLimits (p : BrakeSet) : Bool :=
  decide (p.slipExit < p.slipEnter) && decide (p.raiseLoad + 1000 ≤ p.lowerLoad) &&
    decide (p.tareTotal + 1000 ≤ p.grossTotal) && decide (p.mainLoadEmpty + 1000 ≤ p.mainLoadLaden) &&
    decide (p.liftLoadEmpty + 1000 ≤ p.liftLoadLaden) && decide (p.thrFull ≤ p.thrEmpty)

/-- A parameter value as it is carried: 16 bits, two's complement where negative (R172). -/
def paramWord (v : Int) : BitVec 16 := BitVec.ofInt 16 v

/-- R175: the digest of a brake set. -/
def BrakeSet.digest (p : BrakeSet) : BitVec 16 := crc16 (p.vals.toList.map paramWord)

end Sys2Proof.Machine
end

