-- ==== Sys2Proof/Machine/Records.lean ====
section
/-! DEFINITION. The records the eleven blocks keep, chapter by chapter, as plain data. The constructors of an
enumeration stand in the order of its chapter's list of values, since READ_RECORD sends that
position (R187). Fields that a rule fixes from others are computed in Machine/Ops.lean, not stored. -/

namespace Sys2Proof.Machine

/-- The two counters of R3 and R16, and the microseconds into the present millisecond. -/
structure Clock where
  ms : Stamp
  us : Stamp
  phase : Nat
deriving DecidableEq, Repr

/-! ## Chapter 1: inputs and wheels -/

/-- Input states and wheel states (R7, R18). -/
inductive InState where
  | settling | valid | hold | lost
deriving DecidableEq, Repr

/-- Range bands (R6). -/
inductive Band where
  | inRange | under | over
deriving DecidableEq, Repr

/-- Fault causes of an input (R7). -/
inductive InCause where
  | none | range | openWire
deriving DecidableEq, Repr

/-- The fault kind an input holds raised (R7). -/
inductive RaisedKind where
  | none | inputRange | inputOpen
deriving DecidableEq, Repr

/-- An analog input record (R7). The mark is fixed by the state, the window size by `in_filter`. -/
structure InputRec where
  state : InState
  filtered : Int
  last : Int
  band : Band
  window : List Int
  cause : InCause
  raised : RaisedKind
  runStart : Option Stamp
  holdDeadline : Option Stamp
  lastSample : Stamp
deriving DecidableEq, Repr

/-- The ICU's record of a wheel end (R16 to R21). Edge stamps are microsecond stamps. -/
structure WheelRec where
  state : InState
  published : Int
  computed : Int
  count : Nat
  firstEdge : Option Stamp
  ivLastEdge : Option Stamp
  lastEdge : Option Stamp
  latestCount : Nat
  openWire : Bool
  holdDeadline : Option Stamp
  recoveryEnd : Option Stamp
deriving DecidableEq, Repr

/-- The input conditioning unit. `vsolMin` is the `vsol_min` that the solenoid supply monitor judges by: the one active
at the latest VSOL publication (R23). -/
structure Icu where
  inputs : PerInput InputRec
  wheels : PerWheel WheelRec
  supplyLow : Bool
  lowTimer : Option Stamp
  clearTimer : Option Stamp
  vsolMin : Int
deriving DecidableEq, Repr

/-! ## Chapter 2: tyres -/

/-- Sensor states (R32). -/
inductive SensorState where
  | unbound | awaiting | live | missing
deriving DecidableEq, Repr

/-- Pressure alarm levels, from mild to severe (R32). -/
inductive Level where
  | none | high | lowWarn | lowCrit | flat
deriving DecidableEq, Repr

/-- An acknowledged set (R42). -/
structure Ack where
  level : Level
  hot : Bool
  leak : Bool
deriving DecidableEq, Repr

/-- A tyre record (R32); its position is its place in the table. -/
structure TyreRec where
  bound : Option (BitVec 32)
  state : SensorState
  profile : Option Nat
  pressure : Option Int
  temperature : Option Int
  compensated : Option Int
  strength : Option Byte
  lastTime : Option Stamp
  missingDeadline : Option Stamp
  deadlineBase : Option Stamp
  lowBattery : Bool
  level : Level
  hot : Bool
  leak : Bool
  acked : Option Ack
  trend : List (Stamp × Int)
deriving DecidableEq, Repr

/-- A stranger entry (R44). -/
structure Stranger where
  id : BitVec 32
  profile : Nat
  pressure : Int
  strength : Byte
  sightings : Nat
  lastSeen : Stamp
deriving DecidableEq, Repr

/-- Learn outcomes (section 2.10). -/
inductive LearnOutcome where
  | none | bound | failed | cancelled
deriving DecidableEq, Repr

/-- An occupied learn slot; `opened` is the time R52 counts a new `learn_timeout` from. -/
structure LearnSlot where
  position : Tyre
  port : Port
  opened : Stamp
  deadline : Stamp
deriving DecidableEq, Repr

/-- The learn record (section 2.10). -/
structure Learn where
  slot : Option LearnSlot
  outcome : LearnOutcome
  position : Option Tyre
  id : Option (BitVec 32)
  time : Option Stamp
deriving DecidableEq, Repr

/-- Tyre conditions of a wheel end (R1, R49). -/
inductive TyreCond where
  | ok | low | flat | unknown
deriving DecidableEq, Repr

/-- The drag timer of a wheel end (R51): at 0, running since a stamp, or standing at 60 s. -/
inductive DragTimer where
  | zero
  | running (start : Stamp)
  | full
deriving DecidableEq, Repr

/-- The TTR's fields of a wheel end (R49, R51). -/
structure WheelTyre where
  cond : TyreCond
  derate : Int
  drag : DragTimer
  dragFlag : Bool
deriving DecidableEq, Repr

/-- The tyre telegram receiver. `rx` holds the bytes of a frame in reception, length byte first; absent in
WAIT_LENGTH (R25). -/
structure Ttr where
  rx : Option (List Byte)
  gapDeadline : Option Stamp
  accepted : Nat
  checkRejected : Nat
  formatRejected : Nat
  strangerCount : Nat
  tyres : PerTyre TyreRec
  strangers : List Stranger
  learn : Learn
  wheels : PerWheel WheelTyre
deriving DecidableEq, Repr

/-- A decoded telegram (R31). -/
structure Telegram where
  id : BitVec 32
  profile : Nat
  pressure : Int
  temperature : Option Int
  alert : Bool
  lowBattery : Bool
  strength : Byte
  time : Stamp
deriving DecidableEq, Repr

/-! ## Chapter 3: loads and lift axle -/

/-- A bellows calibration record (R55). -/
structure CalRec where
  pEmpty : Int
  loadEmpty : Int
  pLaden : Int
  loadLaden : Int
  confirmed : Bool
deriving DecidableEq, Repr

/-- The two captures of a sensor, each a pressure and a load (section 3.6). -/
structure Captures where
  empty : Option (Int × Int)
  laden : Option (Int × Int)
deriving DecidableEq, Repr

/-- Results of a calibration (section 3.6). -/
inductive CalResult where
  | none | done | bad
deriving DecidableEq, Repr

/-- How the last session ended (section 3.6). -/
inductive CalEnd where
  | none | closed | aborted
deriving DecidableEq, Repr

/-- The load estimation unit. `release` is the start of a running release timer. -/
structure Leu where
  cal : PerBellows CalRec
  sensor : PerBellows Marked
  liveMain : Marked
  liveLift : Marked
  liveTotal : Marked
  appMain : Marked
  appLift : Marked
  appTotal : Marked
  fill : Marked
  frozen : Bool
  release : Option Stamp
  sessionOpen : Bool
  captures : PerBellows Captures
  results : PerBellows CalResult
  lastEnd : CalEnd
  lastEndTime : Option Stamp
deriving DecidableEq, Repr

/-- Lift states (R71). -/
inductive LiftState where
  | down | raising | up | lowering
deriving DecidableEq, Repr

/-- Sources of a lift request (R71). -/
inductive LiftSource where
  | a | t | button | auto
deriving DecidableEq, Repr

/-- Lift requests (R71). -/
inductive LiftRequest where
  | raise | lower
deriving DecidableEq, Repr

/-- Outcomes of a lift request (R71). -/
inductive LiftOutcome where
  | taken | refused | ignored | noEffect
deriving DecidableEq, Repr

/-- What stood against a raise request (R72): the first failing condition, 1 to 11, or the lift state when
it was not DOWN. -/
inductive LiftBar where
  | condition (n : Nat)
  | state (st : LiftState)
deriving DecidableEq, Repr

/-- The request latch (R71). -/
structure LiftLatch where
  source : LiftSource
  request : LiftRequest
  time : Stamp
  outcome : LiftOutcome
  bar : Option LiftBar
deriving DecidableEq, Repr

/-- Button levels (R71). -/
inductive ButtonLevel where
  | unknown | released | pressed
deriving DecidableEq, Repr

/-- The lift axle controller. `autoTimer` is the start of a running auto timer; `pin` is the raw level of
the push-button and `pinSince` the time it took that level (R80). -/
structure Lac where
  state : LiftState
  auto : Bool
  deadline : Option Stamp
  autoTimer : Option Stamp
  timeoutFlag : Bool
  latch : Option LiftLatch
  button : ButtonLevel
  pin : Bool
  pinSince : Stamp
deriving DecidableEq, Repr

/-! ## Chapter 4: demand -/

/-- Freshness of a demand (section 4.2). -/
inductive Freshness where
  | absent | fresh | stale
deriving DecidableEq, Repr

/-- Demand modes (section 4.4). -/
inductive DemandMode where
  | electric | holding | sensed | passthrough
deriving DecidableEq, Repr

/-- What the DAR keeps of one controller (section 4.2). -/
structure Ctrl where
  demand : Option Int
  arrival : Option Stamp
  fresh : Freshness
  deadline : Option Stamp
  resumeVote : Bool
  clearVote : Bool
deriving DecidableEq, Repr

/-- A running resume window: its start, and the time it completes, which R92 fixes at the start. -/
structure ResumeRun where
  start : Stamp
  complete : Stamp
deriving DecidableEq, Repr

/-- The demand arbiter (section 4.2). -/
structure Dar where
  ctrl : PerController Ctrl
  agree : Bool
  agreed : Option Int
  lastAgreed : Int
  mode : DemandMode
  e : Marked
  holdDeadline : Option Stamp
  resume : Option ResumeRun
  startWait : Bool
  mismatch : Option Stamp
  airLow : Option Stamp
deriving DecidableEq, Repr

/-! ## Chapters 5 and 6: channels -/

/-- Where the latest setpoint computation ended (R101). -/
inductive StopStage where
  | inhibit | deadBand | complete
deriving DecidableEq, Repr

/-- The source of a cap (R101). -/
inductive CapSource where
  | psr | pMax
deriving DecidableEq, Repr

/-- The setpoint fields of a channel record (R101). -/
structure Setpoint where
  value : Int
  mark : Mark
  limited : Bool
  stop : StopStage
  f : Option Marked
  g : Option Int
  p1 : Option Int
  d : Option Int
  p2 : Option Int
  floor : Option Int
  cap : Option (Int × CapSource)
  computedAt : Stamp
deriving DecidableEq, Repr

/-- Channel states, from the highest rank to the lowest (R118). -/
inductive ChState where
  | passthrough | inhibited | safeHold | converge | antilock | regulate
deriving DecidableEq, Repr

/-- Latched causes (R117). -/
structure Latched where
  coil : Bool
  sensor : Bool
  tracking : Bool
deriving DecidableEq, Repr

/-- Reported causes of PASSTHROUGH (R117). -/
inductive PassCause where
  | mode | coil | sensor | tracking
deriving DecidableEq, Repr

/-- Coil actions (R119). -/
inductive CoilAction where
  | apply | hold | vent | release
deriving DecidableEq, Repr

/-- Anti-lock phases (R117). -/
inductive Phase where
  | idle | dump | hold | reapply
deriving DecidableEq, Repr

/-- Converge sides (R117). -/
inductive ConvSide where
  | below | above
deriving DecidableEq, Repr

/-- A channel record: the setpoint fields (R101) and the CHC's fields (R117). The tracking time is
`trackAccum` plus the time since `trackSince` where that is present (R121). -/
structure ChannelRec where
  sp : Setpoint
  state : ChState
  latched : Latched
  action : CoilAction
  phase : Phase
  pLock : Option Int
  ramp : Option Int
  phaseDeadline : Option Stamp
  held : Option Int
  holdDeadline : Option Stamp
  side : Option ConvSide
  trackAccum : Nat
  trackSince : Option Stamp
  slip : Int
  departPending : Bool
  episodes : Nat
deriving DecidableEq, Repr

/-- Coil statuses (section 6.9). -/
inductive CoilStatus where
  | ok | openCircuit | short
deriving DecidableEq, Repr

/-- Kinds of a coil test (section 6.9). -/
inductive TestKind where
  | patrol | onCheck
deriving DecidableEq, Repr

/-- The last test of a coil (section 6.9). -/
structure CoilTest where
  kind : TestKind
  time : Stamp
  result : TestResult
deriving DecidableEq, Repr

/-- The supervision record of a coil (section 6.9). -/
structure CoilRec where
  commanded : Bool
  readback : Bool
  status : CoilStatus
  onCheck : Option Stamp
  lastTest : Option CoilTest
deriving DecidableEq, Repr

/-- What the channel controllers keep beside the channel records. -/
structure Chc where
  ref : Marked
  lastCandidate : Option Stamp
  slips : PerWheel Int
  coils : PerCoil CoilRec
  patrol : Coil
deriving DecidableEq, Repr

/-! ## Chapter 7: roll stability -/

/-- Roll states (R144). -/
inductive RollState where
  | disabled | unavailable | watch | probe | intervene | recover
deriving DecidableEq, Repr

/-- Unavailability causes (R146). -/
structure RollCauses where
  alatLost : Bool
  refLost : Bool
  passthrough : Bool
deriving DecidableEq, Repr

/-- Intervention causes (R144). -/
inductive IntCause where
  | wheelLift | lateral
deriving DecidableEq, Repr

/-- The roll record (R144). -/
structure Rsu where
  state : RollState
  causes : RollCauses
  fillUsed : Marked
  penalty : Bool
  aThr : Int
  aProbe : Int
  inner : Option Side
  innerFloor : Int
  outerFloor : Int
  floors : PerChannel Int
  probeDeadline : Option Stamp
  lastProbeEnd : Option Stamp
  quiet : Option Stamp
  nextStep : Option Stamp
  cause : Option IntCause
deriving DecidableEq, Repr

/-! ## Chapter 8: faults -/

/-- A fault pair: a kind with its subject, in the order of the kind table of R160. -/
inductive FaultPair where
  | inputRange (i : InputId)
  | inputOpen (i : InputId)
  | wheelSpeedLost (w : WheelEnd)
  | supplyLow
  | demandStale (k : Controller)
  | demandDisagree
  | controlLineMismatch
  | airSupplyLow
  | antilockUnavailable (c : Channel)
  | coilOpen (k : Coil)
  | coilShort (k : Coil)
  | pressureTracking (c : Channel)
  | liftTimeout
  | tyreFlat (w : WheelEnd)
  | brakeDrag (w : WheelEnd)
  | rollUnavailable
  | storeCheck (x : Section)
  | unconfigured
deriving DecidableEq, Repr

/-- Severities, in rising order (R160). -/
inductive Severity where
  | note | warn | severe
deriving DecidableEq, Repr

/-- A pair of the active fault set (R162). -/
structure ActiveFault where
  pair : FaultPair
  time : Stamp
  severity : Severity
deriving DecidableEq, Repr

/-- A channel's part of the first-fault record (section 8.3). -/
structure ChannelContext where
  state : ChState
  setpoint : Int
  mark : Mark
deriving DecidableEq, Repr

/-- The context of a first fault (section 8.3). -/
structure FaultContext where
  mode : DemandMode
  e : Marked
  ref : Marked
  appMain : Marked
  appLift : Marked
  channels : PerChannel ChannelContext
  lift : LiftState
  roll : RollState
deriving DecidableEq, Repr

/-- The first-fault record (section 8.3). -/
structure FirstFault where
  pair : FaultPair
  time : Stamp
  severity : Severity
  context : FaultContext
deriving DecidableEq, Repr

/-- An entry of the next-fault list (R167). -/
structure FaultEntry where
  pair : FaultPair
  firstSeen : Stamp
  lastSeen : Stamp
  count : Nat
  active : Bool
  severity : Severity
deriving DecidableEq, Repr

/-- The fault manager. The active set and the list stand oldest first. -/
structure Flm where
  active : List ActiveFault
  first : Option FirstFault
  entries : List FaultEntry
  overrun : Bool
  warnLine : Bool
  severeLine : Bool
deriving DecidableEq, Repr

/-! ## Chapter 9: configuration and store -/

/-- Outcomes of a brake commit (section 9.3). -/
inductive CommitOutcome where
  | none | applied | discarded | expired | reset
deriving DecidableEq, Repr

/-- The brake commit record (section 9.3). -/
structure Commit where
  pending : Bool
  confirmed : Bool
  digest : Option (BitVec 16)
  deadline : Option Stamp
  outcome : CommitOutcome
  time : Option Stamp
deriving DecidableEq, Repr

/-- Section states (section 9.5). -/
inductive SecState where
  | good | defaulted | blank
deriving DecidableEq, Repr

/-- The content of a section (section 9.5). -/
inductive Content where
  | brake (p : BrakeSet)
  | tyre (p : TyreSet)
  | calibration (p : PerBellows CalRec)
  | bindings (p : PerTyre (Option (BitVec 32)))
deriving DecidableEq, Repr

/-- What the storage medium holds for a section: erased, a content whose check passes, or content whose
check fails (R179). -/
inductive Stored where
  | blank
  | good (content : Content)
  | failing
deriving DecidableEq, Repr

/-- A store section: its state, its dirty flag and what the medium holds (section 9.5). -/
structure SectionRec where
  state : SecState
  dirty : Bool
  stored : Stored
deriving DecidableEq, Repr

/-- A write in flight: the section and the content taken at its beginning (R178). -/
structure WriteRun where
  sect : Section
  content : Content
deriving DecidableEq, Repr

/-- Outcomes of a section write (section 9.5). -/
inductive WriteOutcome where
  | none | pass | fail
deriving DecidableEq, Repr

/-- The configuration store. `unconfigured` holds while no brake commit has been applied since an
unconfigured start (R180). -/
structure Cfs where
  brake : BrakeSet
  stagedBrake : BrakeSet
  tyre : TyreSet
  stagedTyre : TyreSet
  commit : Commit
  sections : PerSection SectionRec
  write : Option WriteRun
  lastWrite : WriteOutcome
  lastWriteTime : Option Stamp
  brakeGood : Bool
  unconfigured : Bool
deriving DecidableEq, Repr

/-! ## Chapter 10: ports -/

/-- Refusal reasons (R181), in code order from 1. -/
inductive Reason where
  | notPermitted | badFrame | badArgument | busy | wrongState | fieldBounds
deriving DecidableEq, Repr

/-- Outcomes of a command with what their response carries (R181, R185). -/
inductive Answer where
  | done (payload : List Byte)
  | refused (r : Reason)
  | guardFalse
deriving DecidableEq, Repr

/-- A response: the command echo and the answer (R181). -/
structure Response where
  echo : Byte
  answer : Answer
deriving DecidableEq, Repr

/-- An edge of a condition (R186); `rise` is false for a fall. -/
structure Edge where
  cond : Condition
  rise : Bool
deriving DecidableEq, Repr

/-- An event queue entry (R189). -/
structure QueueEntry where
  edge : Edge
  time : Stamp
  repeats : Nat
deriving DecidableEq, Repr

/-- A port's subscriptions and event queue (R189). -/
structure PortQueue where
  riseMask : BitVec 20
  fallMask : BitVec 20
  queue : List QueueEntry
  lost : Bool
deriving DecidableEq, Repr

/-- An SPI port's line (R182): the pending response, whether a transaction is in progress, and the bytes of
the response clocked out last (the port's output). -/
structure SpiLine where
  pending : Option Response
  transaction : Bool
  out : List Byte
deriving DecidableEq, Repr

/-- Port T's line (R182): the frame in reception from its length byte on, the time (R3) of its last byte, the
responses waiting or being sent, oldest first, and the bytes sent last (the port's output). -/
structure UartLine where
  rx : Option (List Byte)
  lastByte : Stamp
  held : List Response
  out : List Byte
deriving DecidableEq, Repr

/-- A snapshot (R191). -/
structure Snapshot where
  time : Stamp
  mode : DemandMode
  e : Marked
  ref : Marked
  appMain : Int
  appLift : Int
  lift : LiftState
  roll : RollState
  setpoints : PerChannel Int
  measured : PerChannel Int
  levels : PerTyre Level
  sensors : PerTyre SensorState
  warnLine : Bool
  severeLine : Bool
deriving DecidableEq, Repr

/-- An open joint-reset window (R192). -/
structure JointWindow where
  port : Controller
  closes : Stamp
deriving DecidableEq, Repr

/-- The port interface. -/
structure Pif where
  queues : PerPort PortQueue
  spi : PerController SpiLine
  uart : UartLine
  interval : Nat
  nextSnapshot : Option Stamp
  snapshot : Option Snapshot
  snapshotReady : Bool
  window : Option JointWindow
deriving DecidableEq, Repr

end Sys2Proof.Machine
end

