-- ==== Sys2Proof/Machine/Formulas.lean ====
section
/-! DEFINITION. The computations of the chapters that depend on nothing but their arguments: classification
and mean of a reading, wheel speed, telegram decoding, tyre alarms, loads, the setpoint stages, slip,
roll thresholds and fault severities. -/

namespace Sys2Proof.Machine

/-! ## Marks (R4) -/

/-- The worse of two marks. -/
def Mark.worst : Mark → Mark → Mark
  | .lost, _ => .lost
  | _, .lost => .lost
  | .degraded, _ => .degraded
  | _, .degraded => .degraded
  | .valid, .valid => .valid

/-- Whether a quantity is not usable. -/
def isLost (q : Marked) : Bool := q.mark == .lost

/-- The mark an input state or a wheel state fixes (R7, R18). -/
def InState.mark : InState → Mark
  | .settling => .lost
  | .valid => .valid
  | .hold => .degraded
  | .lost => .lost

/-! ## Analog inputs (R5, R6, R8) -/

/-- The nominal range of an input. -/
def nominal : InputId → Int × Int
  | .pdML | .pdMR | .pdLL | .pdLR | .pcl | .pbl | .pbr | .pbx => (0, 1000)
  | .psr => (0, 1200)
  | .alat => (-2000, 2000)
  | .vsol => (8000, 32000)

/-- The margin of an input. -/
def margin : InputId → Int
  | .pdML | .pdMR | .pdLL | .pdLR | .pcl | .pbl | .pbr | .pbx => 40
  | .psr => 48
  | .alat => 80
  | .vsol => 1000

/-- R5: the cause for which a sample is bad, or NONE for a good sample. -/
def badCause (i : InputId) (reading : Int) (openWire : Bool) : InCause :=
  if openWire then .openWire
  else if reading < (nominal i).1 - margin i ∨ (nominal i).2 + margin i < reading then .range
  else .none

/-- R6: the band of a good sample. -/
def bandOf (i : InputId) (reading : Int) : Band :=
  if reading < (nominal i).1 then .under
  else if (nominal i).2 < reading then .over
  else .inRange

/-- R6: a good reading brought into the nominal range. -/
def clampReading (i : InputId) (reading : Int) : Int := clamp (nominal i).1 (nominal i).2 reading

/-- R8: the mean of a window, rounded to nearest. -/
def mean (w : List Int) : Int := divNearest w.sum w.length

/-- R8: a reading joins the end of a window of at most `n` readings; the oldest leaves a full one. -/
def joinWindow (n : Nat) (w : List Int) (x : Int) : List Int :=
  (if w.length < n then w else w.drop (w.length + 1 - n)) ++ [x]

/-! ## Wheel speeds (R17) -/

/-- R17: the new computed speed, from circumference `c`, teeth `t`, the interval's edge count and first and
last edge, the last-edge stamp, the microsecond time and the previous computed speed. -/
def wheelSpeed (c t : Int) (w : WheelRec) (us : Stamp) : Int :=
  match w.lastEdge with
  | none => 0
  | some e =>
    let u := since us e
    if 200000 ≤ u then 0
    else if 2 ≤ w.count then
      match w.firstEdge, w.ivLastEdge with
      | some a, some b =>
        let s := since b a
        divNearest ((w.count - 1 : Int) * c * 36000) (t * (if s = 0 then 1 else (s : Int)))
      | _, _ => 0
    else min w.computed (divNearest (c * 36000) (t * (if u = 0 then 1 else (u : Int))))

/-! ## Telegrams (R26, R28, R30, R31) -/

/-- The number a list of bytes spells, first byte most significant. -/
def bytesNat (l : List Byte) : Nat := l.foldl (fun a b => 256 * a + b.toNat) 0

/-- R28: the raw value of the field of width `w` at bit offset `o` of a payload. -/
def bitField (payload : List Byte) (o w : Nat) : Nat :=
  bytesNat payload / 2 ^ (8 * payload.length - (o + w)) % 2 ^ w

/-- R26: whether the bytes of a frame sum to 0 modulo 256. -/
def sumOk (frame : List Byte) : Bool := frame.foldl (· + ·) 0#8 == 0#8

/-- R30: whether a payload matches a profile. -/
def Profile.matches (q : Profile) (payload : List Byte) : Bool :=
  q.enabled && q.length == payload.length &&
    bitField payload q.markerOff q.markerWidth == q.markerValue

/-- A flag of a profile: set when the profile has it and its bit is 1 (R31). -/
def flagBit (payload : List Byte) : Option Nat → Bool
  | none => false
  | some o => bitField payload o 1 == 1

/-- R31: a payload decoded by profile `q`, which has index `k`. -/
def Profile.decode (q : Profile) (k : Nat) (payload : List Byte) (strength : Byte) (t : Stamp) : Telegram :=
  { id := BitVec.ofNat 32 (bitField payload q.idOff q.idWidth)
    profile := k
    pressure :=
      clamp 0 1500 (divZero (bitField payload q.pressOff q.pressWidth * q.pressStep) 16 + q.pressBias)
    temperature :=
      if q.tempWidth = 0 then none
      else some (clamp (-40) 150 (bitField payload q.tempOff q.tempWidth + q.tempBias))
    alert := flagBit payload q.alertOff
    lowBattery := flagBit payload q.lowBattOff
    strength := strength
    time := t }

/-- R30: the lowest-numbered profile a payload matches. -/
def matchProfile (p : TyreSet) (payload : List Byte) : Option Nat :=
  [0, 1, 2, 3].find? fun k => (p.profile k).matches payload

/-! ## Tyre pressures and alarms (R36 to R41) -/

/-- R36: the compensated pressure; a telegram without a temperature counts as 20 °C. -/
def compensate (pressure : Int) (temperature : Option Int) : Int :=
  divNearest ((pressure + 101) * 293) (temperature.getD 20 + 273) - 101

/-- R37: a threshold of a tyre, a fraction of its axle's cold pressure. -/
def threshold (p : TyreSet) (y : Tyre) (frac : Int) : Int := divZero (p.cold y * frac) 1024

/-- The rank of a level, NONE lowest (R32). -/
def Level.rank : Level → Nat
  | .none => 0
  | .high => 1
  | .lowWarn => 2
  | .lowCrit => 3
  | .flat => 4

/-- R37: the entry condition of a level for a gauge pressure and a compensated pressure. -/
def Level.entry (p : TyreSet) (y : Tyre) (gauge comp : Int) : Level → Bool
  | .none => false
  | .high => decide (threshold p y p.highFrac < comp)
  | .lowWarn => decide (comp < threshold p y p.lowWarnFrac)
  | .lowCrit => decide (comp < threshold p y p.lowCritFrac)
  | .flat => decide (gauge < p.flatLimit)

/-- R37: the clear condition of a level. -/
def Level.clears (p : TyreSet) (y : Tyre) (gauge comp : Int) : Level → Bool
  | .none => true
  | .high => decide (comp ≤ threshold p y p.highFrac - 10)
  | .lowWarn => decide (threshold p y p.lowWarnFrac + 10 ≤ comp)
  | .lowCrit => decide (threshold p y p.lowCritFrac + 10 ≤ comp)
  | .flat => decide (p.flatLimit + 10 ≤ gauge)

/-- Whether `before` is `l` or a worse level on the same side (R37, R38). -/
def Level.atLeastSameSide (before l : Level) : Bool :=
  match l with
  | .none => false
  | .high => before == .high
  | _ => decide (l.rank ≤ before.rank)

/-- R38: whether a level is held at a judgement. -/
def Level.held (p : TyreSet) (y : Tyre) (gauge comp : Int) (before l : Level) : Bool :=
  l.entry p y gauge comp || (before.atLeastSameSide l && !l.clears p y gauge comp)

/-- R38: the new pressure alarm level, the worst held level. -/
def judgeLevel (p : TyreSet) (y : Tyre) (gauge comp : Int) (before : Level) : Level :=
  if Level.held p y gauge comp before .flat then .flat
  else if Level.held p y gauge comp before .lowCrit then .lowCrit
  else if Level.held p y gauge comp before .lowWarn then .lowWarn
  else if Level.held p y gauge comp before .high then .high
  else .none

/-- R39: the HOT flag after a telegram. -/
def judgeHot (p : TyreSet) (temperature : Option Int) (before : Bool) : Bool :=
  match temperature with
  | none => before
  | some t => if before then !decide (t ≤ p.hotLimit - 5) else decide (p.hotLimit < t)

/-- R40: the ring after a sample is taken: samples older than `window` leave, then the oldest of eight, and
the new sample joins. -/
def takeSample (window : Nat) (ring : List (Stamp × Int)) (t : Stamp) (x : Int) : List (Stamp × Int) :=
  let kept := ring.filter fun q => decide (since t q.1 ≤ window)
  (if kept.length < 8 then kept else kept.drop (kept.length - 7)) ++ [(t, x)]

/-- R40: the drop of a ring, its oldest sample minus its newest. -/
def ringDrop (ring : List (Stamp × Int)) : Int :=
  match ring.head?, ring.getLast? with
  | some a, some b => a.2 - b.2
  | _, _ => 0

/-- R41: the LEAK flag judged when a sample was appended. -/
def judgeLeak (drop : Int) (ring : List (Stamp × Int)) (before : Bool) : Bool :=
  if before then !decide (ringDrop ring < divZero drop 2)
  else decide (4 ≤ ring.length) && decide (drop ≤ ringDrop ring)

/-- The alarms of a record (section 2.3). -/
def TyreRec.hasAlarm (r : TyreRec) : Bool := r.level != .none || r.hot || r.leak

/-- A record is unacknowledged (R43). -/
def TyreRec.unacked (r : TyreRec) : Bool := r.hasAlarm && r.acked.isNone

/-- The two tyre positions of a wheel end (R3, Tyre positions). -/
def tyresOf : WheelEnd → Tyre × Tyre
  | .w1L => (.t1LO, .t1LI)
  | .w1R => (.t1RI, .t1RO)
  | .w2L => (.t2LO, .t2LI)
  | .w2R => (.t2RI, .t2RO)
  | .w3L => (.t3LO, .t3LI)
  | .w3R => (.t3RI, .t3RO)

/-- The wheel end of a tyre position. -/
def wheelOf : Tyre → WheelEnd
  | .t1LO | .t1LI => .w1L
  | .t1RI | .t1RO => .w1R
  | .t2LO | .t2LI => .w2L
  | .t2RI | .t2RO => .w2R
  | .t3LO | .t3LI => .w3L
  | .t3RI | .t3RO => .w3R

/-- The channel that brakes a wheel end (R1). -/
def channelOf : WheelEnd → Channel
  | .w2L | .w3L => .ml
  | .w2R | .w3R => .mr
  | .w1L => .ll
  | .w1R => .lr

/-- The wheel ends a channel brakes (R1). -/
def wheelsOf : Channel → List WheelEnd
  | .ml => [.w2L, .w3L]
  | .mr => [.w2R, .w3R]
  | .ll => [.w1L]
  | .lr => [.w1R]

/-- R49: the tyre condition of a wheel end from its two tyre records. -/
def wheelCond (x y : TyreRec) : TyreCond :=
  let flat := fun (r : TyreRec) => r.state == .live && r.level == .flat
  if flat x || flat y then .flat
  else if x.level == .lowCrit || y.level == .lowCrit then .low
  else if x.state != .live || y.state != .live then .unknown
  else .ok

/-- R49: the derate of a tyre condition. -/
def derateOf (p : BrakeSet) : TyreCond → Int
  | .flat => p.derateFlat
  | .low => p.derateLow
  | .unknown | .ok => 1024

/-! ## Loads (R56, R58, R63) -/

/-- The largest sensor load of a bellows input (R56). -/
def loadTop : Bellows → Int
  | .pbl | .pbr => 12000
  | .pbx => 10000

/-- R56: the sensor load for a bellows pressure. -/
def sensorLoad (b : Bellows) (r : CalRec) (p : Int) : Int :=
  clamp 0 (loadTop b)
    (roundTen (r.loadEmpty + divZero ((p - r.pEmpty) * (r.loadLaden - r.loadEmpty)) (r.pLaden - r.pEmpty)))

/-- R58: the main-group load from the two sensor loads. -/
def mainLoad (l r : Marked) : Marked :=
  match isLost l, isLost r with
  | false, false => ⟨l.val + r.val, Mark.worst l.mark r.mark⟩
  | true, false => ⟨2 * r.val, .degraded⟩
  | false, true => ⟨2 * l.val, .degraded⟩
  | true, true => ⟨l.val + r.val, .lost⟩

/-- The sum of two loads with the worse mark (R58, R62). -/
def addLoads (x y : Marked) : Marked := ⟨x.val + y.val, Mark.worst x.mark y.mark⟩

/-- R63: the fill fraction of an applied total. -/
def fillOf (p : BrakeSet) (total : Marked) : Marked :=
  if isLost total then ⟨1024, .degraded⟩
  else ⟨clamp 0 1024 (divZero ((total.val - p.tareTotal) * 1024) (p.grossTotal - p.tareTotal)), total.mark⟩

/-- R66: a candidate record is accepted. -/
def CalRec.acceptable (r : CalRec) : Bool :=
  decide (50 ≤ r.pLaden - r.pEmpty) && decide (r.loadEmpty < r.loadLaden)

/-- R55: the factory calibration record of a bellows input. -/
def CalRec.factory (confirmed : Bool) : Bellows → CalRec
  | .pbl | .pbr => ⟨150, 3000, 600, 9000, confirmed⟩
  | .pbx => ⟨100, 1500, 550, 4500, confirmed⟩

/-! ## The setpoint stages (R104 to R114) -/

/-- What the computation of a channel reads (R102), beside the active parameters. `inhibited` gathers the
three conditions of stage 0. -/
structure SetpointInputs where
  inhibited : Bool
  e : Marked
  load : Marked
  calDefaulted : Bool
  derate : Int
  floor : Int
  psr : Marked
deriving DecidableEq, Repr

/-- The load bounds of a channel's axle group (R106). -/
def loadBounds (p : BrakeSet) : Channel → Int × Int
  | .ml | .mr => (p.mainLoadEmpty, p.mainLoadLaden)
  | .ll | .lr => (p.liftLoadEmpty, p.liftLoadLaden)

/-- Stage 2 (R106, R107): the load fraction. -/
def loadFraction (p : BrakeSet) (c : Channel) (q : SetpointInputs) : Marked :=
  if isLost q.load || q.calDefaulted then ⟨1024, .degraded⟩
  else
    let b := loadBounds p c
    ⟨clamp 0 1024 (divZero ((q.load.val - b.1) * 1024) (b.2 - b.1)), q.load.mark⟩

/-- Stage 3 (R108): the gain. -/
def gainOf (p : BrakeSet) (f : Int) : Int := p.gEmpty + divZero ((1024 - p.gEmpty) * f) 1024

/-- Stage 6 (R111): the minimum apply. -/
def minApply (p : BrakeSet) (p2 : Int) : Int := if 0 < p2 ∧ p2 < p.pMinApply then p.pMinApply else p2

/-- The cap of stage 8 (R113) with its source (R101). -/
def capOf (p : BrakeSet) (c : Channel) (psr : Marked) : Int × CapSource :=
  let top := p.pMax c
  if isLost psr then (top, .pMax)
  else
    let supply := max 0 (psr.val - p.supplyMargin)
    if supply < top then (supply, .psr)
    else if top < supply then (top, .pMax)
    else (top, if Config.capTieIsPsr then .psr else .pMax)

/-- R114: what PSR adds to the setpoint mark. -/
def supplyMark (psr : Marked) : Mark := if psr.mark = .valid then .valid else .degraded

/-- R103 to R114: the setpoint fields of one computation, at time `t`. -/
def computeSetpoint (p : BrakeSet) (c : Channel) (q : SetpointInputs) (t : Stamp) : Setpoint :=
  if q.inhibited then
    ⟨0, .valid, false, .inhibit, none, none, none, none, none, none, none, t⟩
  else if q.e.val < p.crack then
    ⟨0, q.e.mark, false, .deadBand, none, none, none, none, none, none, none, t⟩
  else
    let f := loadFraction p c q
    let g := gainOf p f.val
    let p1 := divNearest (q.e.val * g) 1024
    let p2 := minApply p (divZero (p1 * q.derate) 1024)
    let p3 := max p2 q.floor
    let cap := capOf p c q.psr
    ⟨min p3 cap.1, Mark.worst (Mark.worst q.e.mark f.mark) (supplyMark q.psr), decide (cap.1 < p3), .complete,
      some f, some g, some p1, some q.derate, some p2, some q.floor, some cap, t⟩

/-! ## Reference speed and slip (R123) -/

/-- R123: the slip of a wheel end that takes part. -/
def slipOf (ref speed : Int) : Int := max 0 (divZero ((ref - speed) * 1000) ref)

/-! ## Roll thresholds (R145) -/

/-- R145: a_thr, for a fill and whether the penalty applies. -/
def rollThr (p : BrakeSet) (fill : Int) (penalty : Bool) : Int :=
  max 200 (p.thrEmpty - divZero ((p.thrEmpty - p.thrFull) * fill) 1024 - (if penalty then p.tyrePenalty else 0))

/-- R145: a_probe. -/
def probeThr (p : BrakeSet) (aThr : Int) : Int := divZero (aThr * p.probeFrac) 1024

/-! ## Faults (R160, R161) -/

/-- The position of a pair's kind in the kind table of R160. -/
def FaultPair.kind : FaultPair → Nat
  | .inputRange _ => 0
  | .inputOpen _ => 1
  | .wheelSpeedLost _ => 2
  | .supplyLow => 3
  | .demandStale _ => 4
  | .demandDisagree => 5
  | .controlLineMismatch => 6
  | .airSupplyLow => 7
  | .antilockUnavailable _ => 8
  | .coilOpen _ => 9
  | .coilShort _ => 10
  | .pressureTracking _ => 11
  | .liftTimeout => 12
  | .tyreFlat _ => 13
  | .brakeDrag _ => 14
  | .rollUnavailable => 15
  | .storeCheck _ => 16
  | .unconfigured => 17

/-- R160: the default severity of a pair. -/
def FaultPair.default : FaultPair → Severity
  | .supplyLow | .coilShort _ | .pressureTracking _ | .unconfigured => .severe
  | .storeCheck .brakeConfig | .storeCheck .calibration => .severe
  | .controlLineMismatch => .note
  | _ => .warn

/-- R161: the lowest allowed level of a pair's subject, where it differs from the kind's: STORE_CHECK's is
the default of the subject. -/
def FaultPair.subjectLowest : FaultPair → Severity
  | .storeCheck .brakeConfig | .storeCheck .calibration => .severe
  | .storeCheck _ => .warn
  | _ => .note

/-- The rank of a severity, NOTE lowest (R160). -/
def Severity.rank : Severity → Nat
  | .note => 0
  | .warn => 1
  | .severe => 2

/-- R161: the effective severity of a pair under a brake set. -/
def severityOf (p : BrakeSet) (x : FaultPair) : Severity :=
  let v := p.severityOverride x.kind
  let base := if v = 1 then .note else if v = 2 then .warn else if v = 3 then .severe else x.default
  if base.rank < x.subjectLowest.rank then x.subjectLowest else base

end Sys2Proof.Machine
end

