-- ==== Sys2Proof/Machine/ResetValues.lean ====
section
/-! DEFINITION. The values each block's record takes at a hard reset (R24, R53, R70, R82, R100, R116, R143,
R159, R170, R179, R194). The time counters are 0 then, so every stamp "at the reset time" is 0. -/

namespace Sys2Proof.Machine

def Clock.hard : Clock := ⟨0, 0, 0⟩

/-- R24, with the time of the reset. -/
def InputRec.hard (t : Stamp) : InputRec :=
  ⟨.settling, 0, 0, .inRange, [], .none, .none, none, none, t⟩

/-- R24 and R19: an indication present at the reset counts as appearing then. -/
def WheelRec.hard (p : BrakeSet) (t : Stamp) (openWire : Bool) : WheelRec :=
  ⟨.settling, 0, 0, 0, none, none, none, 0, openWire,
    if openWire then some (after t p.inHoldTime) else none, none⟩

/-- The six wheel records after a reset at time `t`, for the present levels of the open-wire indications. -/
def wheelsHard (p : BrakeSet) (t : Stamp) (o : PerWheel WheelRec) : PerWheel WheelRec :=
  ⟨.hard p t o.w1L.openWire, .hard p t o.w1R.openWire, .hard p t o.w2L.openWire, .hard p t o.w2R.openWire,
    .hard p t o.w3L.openWire, .hard p t o.w3R.openWire⟩

/-- R24 at a hard reset; `o` gives the levels of the open-wire indications. -/
def Icu.hard (p : BrakeSet) (o : PerWheel WheelRec) : Icu :=
  ⟨.all (.hard 0), wheelsHard p 0 o, false, none, none, p.vsolMin⟩

/-- A cleared record (R48, R53). -/
def TyreRec.cleared : TyreRec :=
  ⟨none, .unbound, none, none, none, none, none, none, none, none, false, .none, false, false, none, []⟩

/-- R53: a record with the ID that BINDINGS gives it. -/
def TyreRec.hard (p : TyreSet) : Option (BitVec 32) → TyreRec
  | none => .cleared
  | some x =>
    { TyreRec.cleared with
      bound := some x
      state := .awaiting
      missingDeadline := some (after 0 p.missingTimeout)
      deadlineBase := some 0 }

/-- R53: the tyre table from the bindings loaded. -/
def tyresHard (p : TyreSet) (b : PerTyre (Option (BitVec 32))) : PerTyre TyreRec :=
  ⟨.hard p b.t1LO, .hard p b.t1LI, .hard p b.t1RI, .hard p b.t1RO, .hard p b.t2LO, .hard p b.t2LI,
    .hard p b.t2RI, .hard p b.t2RO, .hard p b.t3LO, .hard p b.t3LI, .hard p b.t3RI, .hard p b.t3RO⟩

/-- R53. -/
def Ttr.hard (p : TyreSet) (b : PerTyre (Option (BitVec 32))) : Ttr :=
  ⟨none, none, 0, 0, 0, 0, tyresHard p b, [], ⟨none, .none, none, none, none⟩,
    .all ⟨.unknown, 1024, .zero, false⟩⟩

/-- R70 at a hard reset: lift state LOWERING, so the lift group is 0, VALID. -/
def Leu.hard (cal : PerBellows CalRec) : Leu :=
  { cal := cal
    sensor := .all ⟨0, .lost⟩
    liveMain := ⟨0, .lost⟩
    liveLift := ⟨0, .valid⟩
    liveTotal := ⟨0, .lost⟩
    appMain := ⟨0, .lost⟩
    appLift := ⟨0, .valid⟩
    appTotal := ⟨0, .lost⟩
    fill := ⟨1024, .degraded⟩
    frozen := false
    release := none
    sessionOpen := false
    captures := .all ⟨none, none⟩
    results := .all .none
    lastEnd := .none
    lastEndTime := none }

/-- R82; `pin` is the present level of the push-button. -/
def Lac.hard (p : BrakeSet) (pin : Bool) : Lac :=
  ⟨.lowering, p.liftAutoDefault, some (after 0 p.lowerTimeout), none, false, none, .unknown, pin, 0⟩

/-- R100: what is kept of a controller. -/
def Ctrl.reset : Ctrl := ⟨none, none, .absent, none, false, false⟩

/-- R100, at either reset; `wait` is the start-up wait of R96. -/
def Dar.reset (wait : Bool) : Dar :=
  ⟨.all .reset, false, none, 0, .passthrough, ⟨0, .lost⟩, none, none, wait, none, none⟩

/-- R116, at either reset, at time `t`. -/
def Setpoint.reset (t : Stamp) : Setpoint :=
  ⟨0, .valid, false, .inhibit, none, none, none, none, none, none, none, t⟩

/-- R116 and R143, at either reset, at time `t`; the episode count is 0 or kept. -/
def ChannelRec.reset (t : Stamp) (episodes : Nat) : ChannelRec :=
  { sp := .reset t
    state := .passthrough
    latched := ⟨false, false, false⟩
    action := .release
    phase := .idle
    pLock := none
    ramp := none
    phaseDeadline := none
    held := none
    holdDeadline := none
    side := none
    trackAccum := 0
    trackSince := none
    slip := 0
    departPending := false
    episodes := episodes }

/-- R143 at a hard reset. -/
def CoilRec.hard : CoilRec := ⟨false, false, .ok, none, none⟩

/-- R143 at a hard reset. -/
def Chc.hard : Chc := ⟨⟨0, .lost⟩, none, .all 0, .all .hard, .of .ml .inlet⟩

/-- R159, at either reset, for the fill published after it and whether a main tyre is LOW or FLAT. -/
def Rsu.reset (p : BrakeSet) (fill : Marked) (penalty : Bool) : Rsu :=
  { state := if p.rollEnable then .unavailable else .disabled
    causes := ⟨true, true, true⟩
    fillUsed := fill
    penalty := penalty
    aThr := rollThr p fill.val penalty
    aProbe := probeThr p (rollThr p fill.val penalty)
    inner := none
    innerFloor := 0
    outerFloor := 0
    floors := .all 0
    probeDeadline := none
    lastProbeEnd := none
    quiet := none
    nextStep := none
    cause := none }

/-- R170, before the raises of start-up. -/
def Flm.hard : Flm := ⟨[], none, [], false, false, false⟩

/-- R179: the brake commit after a hard reset. -/
def Commit.hard : Commit := ⟨false, false, none, none, .none, none⟩

/-- A port's queue and masks after a hard reset (R194). -/
def PortQueue.hard : PortQueue := ⟨0, 0, [], false⟩

/-- R194. -/
def Pif.hard : Pif :=
  ⟨.all .hard, .all ⟨none, false, []⟩, ⟨none, 0, [], []⟩, 0, none, none, false, none⟩

end Sys2Proof.Machine
end

