-- ==== Sys2Proof/Machine/State.lean ====
section
/-! DEFINITION. The state of the part, the reasons for which a step could stop, and the state right after a
hard reset of a part whose store is blank. -/

namespace Sys2Proof.Machine

/-- Faults that stop the machine. The spec gives every command an effect in every state, so there is none:
no constructor. The faults of chapter 8 are state, `Flm`. Safe. -/
inductive Fault where
deriving DecidableEq, Repr

/-- Refusals. -/
inductive Refusal where
  /-- Raised by `exec` for a command that has no meaning yet, with the command's mnemonic; no arm raises
  it. Safe: the machine stops. -/
  | notModelled (mnemonic : String)
deriving DecidableEq, Repr

/-- The state of the part: the time counters, the eleven blocks, and the model's own fields `choice` (the
index of the next free choice), `edges` (condition edges of the present event, not yet queued) and
`pending` (the commands waiting, first in, first out). -/
structure State where
  clock : Clock
  icu : Icu
  ttr : Ttr
  leu : Leu
  lac : Lac
  dar : Dar
  channels : PerChannel ChannelRec
  chc : Chc
  rsu : Rsu
  flm : Flm
  cfs : Cfs
  pif : Pif
  choice : Nat
  edges : List Edge
  pending : List Instr
deriving DecidableEq, Repr

/-- The context of the first fault of a reset: every block at its hard-reset values (R165, R170). -/
def FaultContext.hard (p : BrakeSet) : FaultContext :=
  { mode := .passthrough
    e := ⟨0, .lost⟩
    ref := ⟨0, .lost⟩
    appMain := ⟨0, .lost⟩
    appLift := ⟨0, .valid⟩
    channels := .all ⟨.passthrough, 0, .valid⟩
    lift := .lowering
    roll := if p.rollEnable then .unavailable else .disabled }

/-- The fault manager right after a hard reset of an unconfigured part: UNCONFIGURED is raised by the store,
which R179 puts before the other blocks, and ROLL_UNAVAILABLE by the roll stability unit (R159). -/
def Flm.unconfigured : Flm :=
  { active := [⟨.unconfigured, 0, .severe⟩, ⟨.rollUnavailable, 0, .warn⟩]
    first := some ⟨.unconfigured, 0, .severe, .hard .factory⟩
    entries := [⟨.unconfigured, 0, 0, 1, true, .severe⟩, ⟨.rollUnavailable, 0, 0, 1, true, .warn⟩]
    overrun := false
    warnLine := true
    severeLine := true }

/-- The configuration store right after a hard reset of an unconfigured part (R179). -/
def Cfs.unconfiguredStart : Cfs :=
  { brake := .factory
    stagedBrake := .factory
    tyre := .factory
    stagedTyre := .factory
    commit := .hard
    sections := .all ⟨.blank, false, .blank⟩
    write := none
    lastWrite := .none
    lastWriteTime := none
    brakeGood := false
    unconfigured := true }

/-- The three factory calibration records (R55). -/
def calFactory (confirmed : Bool) : PerBellows CalRec :=
  ⟨.factory confirmed .pbl, .factory confirmed .pbr, .factory confirmed .pbx⟩

/-- The part right after a hard reset. The content of the store decides what a reset loads (R179) and the
spec gives a new part none: the store is blank, so the part is unconfigured (DESIGN CHOICE, log
entry 10). No pin shows an open wire and the push-button is released (log entry 12). -/
def State.reset : State :=
  { clock := .hard
    icu := .hard .factory (.all (.hard .factory 0 false))
    ttr := .hard .factory (.all none)
    leu := .hard (calFactory false)
    lac := .hard .factory false
    dar := .reset false
    channels := .all (.reset 0 0)
    chc := .hard
    rsu := .reset .factory ⟨1024, .degraded⟩ false
    flm := .unconfigured
    cfs := .unconfiguredStart
    pif := .hard
    choice := 0
    edges := []
    pending := [] }

end Sys2Proof.Machine
end

