-- ==== Sys2Proof/Machine/Ops.lean ====
section
/-! DEFINITION. Reading and writing the parts of the state: time, the indexed tables, the quantities a rule
fixes from others, and free choices. -/

namespace Sys2Proof.Machine

/-! ## Time (R3, R16) -/

/-- The reading of the millisecond time counter. -/
def State.now (s : State) : Stamp := s.clock.ms

/-- The microsecond time. -/
def State.nowUs (s : State) : Stamp := s.clock.us

/-- `dt` microseconds later: both counters run and wrap (R3, R16; log entry 1). -/
def Clock.advance (dt : Delay) (k : Clock) : Clock :=
  ⟨k.ms + BitVec.ofNat 32 ((k.phase + dt) / 1000), k.us + BitVec.ofNat 32 dt, (k.phase + dt) % 1000⟩

/-- The state at the beginning of an event: time has passed and no edge has been seen yet. -/
def State.tick (dt : Delay) (s : State) : State :=
  { s with clock := s.clock.advance dt, edges := [] }

/-! ## Tables -/

def State.input (s : State) (i : InputId) : InputRec := s.icu.inputs.get i
def State.setInput (s : State) (i : InputId) (r : InputRec) : State :=
  { s with icu := { s.icu with inputs := s.icu.inputs.set i r } }

def State.wheel (s : State) (w : WheelEnd) : WheelRec := s.icu.wheels.get w
def State.setWheel (s : State) (w : WheelEnd) (r : WheelRec) : State :=
  { s with icu := { s.icu with wheels := s.icu.wheels.set w r } }

def State.tyre (s : State) (y : Tyre) : TyreRec := s.ttr.tyres.get y
def State.setTyre (s : State) (y : Tyre) (r : TyreRec) : State :=
  { s with ttr := { s.ttr with tyres := s.ttr.tyres.set y r } }

def State.wheelTyre (s : State) (w : WheelEnd) : WheelTyre := s.ttr.wheels.get w
def State.setWheelTyre (s : State) (w : WheelEnd) (r : WheelTyre) : State :=
  { s with ttr := { s.ttr with wheels := s.ttr.wheels.set w r } }

def State.chan (s : State) (c : Channel) : ChannelRec := s.channels.get c
def State.setChan (s : State) (c : Channel) (r : ChannelRec) : State :=
  { s with channels := s.channels.set c r }

def State.coil (s : State) (k : Coil) : CoilRec := s.chc.coils.get k
def State.setCoil (s : State) (k : Coil) (r : CoilRec) : State :=
  { s with chc := { s.chc with coils := s.chc.coils.set k r } }

def State.ctrl (s : State) (k : Controller) : Ctrl := s.dar.ctrl.get k
def State.setCtrl (s : State) (k : Controller) (r : Ctrl) : State :=
  { s with dar := { s.dar with ctrl := s.dar.ctrl.set k r } }

def State.sect (s : State) (x : Section) : SectionRec := s.cfs.sections.get x
def State.setSect (s : State) (x : Section) (r : SectionRec) : State :=
  { s with cfs := { s.cfs with sections := s.cfs.sections.set x r } }

/-- The active brake-class parameters. -/
def State.brake (s : State) : BrakeSet := s.cfs.brake

/-- The active tyre-class parameters. -/
def State.tyreSet (s : State) : TyreSet := s.cfs.tyre

/-! ## Quantities a rule fixes from others -/

/-- What an input last published: its filtered value and its mark (R7, R15). -/
def State.reading (s : State) (i : InputId) : Marked := ⟨(s.input i).filtered, (s.input i).state.mark⟩

/-- The delivered-pressure input of a channel. -/
def pdOf : Channel → InputId
  | .ml => .pdML
  | .mr => .pdMR
  | .ll => .pdLL
  | .lr => .pdLR

/-- The measured pressure of a channel (R117, R120). -/
def State.measured (s : State) (c : Channel) : Marked := s.reading (pdOf c)

/-- The analog input of a bellows sensor. -/
def bellowsInput : Bellows → InputId
  | .pbl => .pbl
  | .pbr => .pbr
  | .pbx => .pbx

/-- The published speed of a wheel end with its mark (R18). -/
def State.speed (s : State) (w : WheelEnd) : Marked := ⟨(s.wheel w).published, (s.wheel w).state.mark⟩

/-- Whether a wheel end belongs to axle 1 (R1). -/
def axleOne : WheelEnd → Bool
  | .w1L | .w1R => true
  | _ => false

/-- The lifted flag of a wheel end (R1, R73, R78): set for axle 1 while the lift axle is not DOWN. -/
def State.lifted (s : State) (w : WheelEnd) : Bool := axleOne w && s.lac.state != .down

/-- Whether a channel's wheel end is lifted. -/
def State.chanLifted (s : State) (c : Channel) : Bool :=
  match c with
  | .ml | .mr => false
  | .ll => s.lifted .w1L
  | .lr => s.lifted .w1R

/-- Whether the LIFT coil is commanded on (R71). -/
def LiftState.coilOn : LiftState → Bool
  | .raising | .up => true
  | .down | .lowering => false

/-- The calibration-defaulted indication (R57). -/
def State.calDefaulted (s : State) : Bool :=
  !(s.leu.cal.pbl.confirmed && s.leu.cal.pbr.confirmed && s.leu.cal.pbx.confirmed)

/-- Whether a pair is in the active fault set (R162). -/
def State.faulted (s : State) (x : FaultPair) : Bool := s.flm.active.any fun a => a.pair == x

/-- Standstill (introduction, Terms): the reference speed is below 20 and not LOST. -/
def State.standstill (s : State) : Bool := !isLost s.chc.ref && decide (s.chc.ref.val < 20)

/-- The wheel ends of a channel that are not lifted. -/
def State.groundWheels (s : State) (c : Channel) : List WheelEnd :=
  (wheelsOf c).filter fun w => !s.lifted w

/-- Any latched cause (R117). -/
def Latched.any (l : Latched) : Bool := l.coil || l.sensor || l.tracking

/-- The reported cause of PASSTHROUGH (R135); absent outside PASSTHROUGH (R117). -/
def ChannelRec.cause (r : ChannelRec) : Option PassCause :=
  if r.state = .passthrough then
    some (if r.latched.coil then .coil else if r.latched.sensor then .sensor
      else if r.latched.tracking then .tracking else .mode)
  else none

/-- The tracking time of a channel at time `t` (R121). -/
def ChannelRec.tracking (r : ChannelRec) (t : Stamp) : Nat :=
  r.trackAccum + (match r.trackSince with | some a => since t a | none => 0)

/-- The section a content belongs to is written as the present content (R178). -/
def State.content (s : State) : Section → Content
  | .brakeConfig => .brake s.cfs.brake
  | .tyreConfig => .tyre s.cfs.tyre
  | .calibration => .calibration s.leu.cal
  | .bindings =>
    .bindings ⟨s.ttr.tyres.t1LO.bound, s.ttr.tyres.t1LI.bound, s.ttr.tyres.t1RI.bound, s.ttr.tyres.t1RO.bound,
      s.ttr.tyres.t2LO.bound, s.ttr.tyres.t2LI.bound, s.ttr.tyres.t2RI.bound, s.ttr.tyres.t2RO.bound,
      s.ttr.tyres.t3LO.bound, s.ttr.tyres.t3LI.bound, s.ttr.tyres.t3RI.bound, s.ttr.tyres.t3RO.bound⟩

/-! ## Free choices (log entry 24) -/

/-- A list in a freely chosen order: `fuel` is the list's length, `k` the index of the first choice. -/
def freeOrder {α : Type} : Nat → Nat → List α → List α
  | 0, _, l => l
  | fuel + 1, k, l =>
    if l.length ≤ 1 then l
    else
      let i := Config.pick k % l.length
      match l[i]? with
      | some x => x :: freeOrder fuel (k + 1) (l.eraseIdx i)
      | none => l

/-- Edges in a freely chosen order that keeps the order of the edges of one condition: the chosen edge's
condition gives its first edge. -/
def freeEdges : Nat → Nat → List Edge → List Edge
  | 0, _, l => l
  | fuel + 1, k, l =>
    if l.length ≤ 1 then l
    else
      match l[Config.pick k % l.length]? with
      | some x =>
        let i := l.findIdx fun y => y.cond == x.cond
        match l[i]? with
        | some y => y :: freeEdges fuel (k + 1) (l.eraseIdx i)
        | none => l
      | none => l

/-- `l` in a free order, and the state with the choices used up; nothing is chosen for fewer than two. -/
def State.ordered {α : Type} (s : State) (l : List α) : List α × State :=
  if l.length ≤ 1 then (l, s)
  else (freeOrder l.length s.choice l, { s with choice := s.choice + l.length })

/-- A free yes or no, and the state with the choice used up. -/
def State.coin (s : State) : Bool × State :=
  (Config.pick s.choice % 2 == 0, { s with choice := s.choice + 1 })

/-- One of three values, freely chosen where they are not all the same. -/
def chooseOf {α : Type} [DecidableEq α] (k : Nat) (x y z : α) : α :=
  if x = y ∧ x = z then x
  else if Config.pick k % 3 = 0 then x else if Config.pick k % 3 = 1 then y else z

end Sys2Proof.Machine
end

