-- ==== Sys2Proof/Machine/Flags.lean ====
section
/-! DEFINITION. The twenty status conditions (R186), their edges, and the event queues the edges reach
(R189); the frame of an event. -/

namespace Sys2Proof.Machine

/-! ## Conditions (R186) -/

/-- Whether any tyre record has a property. -/
def anyTyre (f : TyreRec → Bool) (s : State) : Bool := Tyre.list.any fun y => f (s.tyre y)

/-- R186: whether a condition is true. -/
def holds (c : Condition) (s : State) : Bool :=
  match c with
  | .standstill => s.standstill
  | .braking => decide (0 < s.dar.e.val)
  | .electric => s.dar.mode == .electric
  | .passthrough => s.dar.mode == .passthrough
  | .antilockAny => Channel.list.any fun c => (s.chan c).state == .antilock
  | .rollActive => s.rsu.state == .probe || s.rsu.state == .intervene || s.rsu.state == .recover
  | .liftDown => s.lac.state == .down
  | .liftUp => s.lac.state == .up
  | .tyreAlarmUnacked => anyTyre TyreRec.unacked s
  | .tyreFlatAny => WheelEnd.list.any fun w => (s.wheelTyre w).cond == .flat
  | .tyreMissingAny => anyTyre (fun r => r.state == .missing) s
  | .warnLine => s.flm.warnLine
  | .severeLine => s.flm.severeLine
  | .logOverrun => s.flm.overrun
  | .storeBusy => s.cfs.write.isSome || Section.list.any fun x => (s.sect x).dirty
  | .commitPending => s.cfs.commit.pending
  | .calOpen => s.leu.sessionOpen
  | .learnOpen => s.ttr.learn.slot.isSome
  | .supplyLow => s.icu.supplyLow
  | .snapshotReady => s.pif.snapshotReady

/-- The bit of a condition in a mask: bit 0 stands for condition 1 (R189). -/
def Condition.bit : Condition → Nat
  | .standstill => 0
  | .braking => 1
  | .electric => 2
  | .passthrough => 3
  | .antilockAny => 4
  | .rollActive => 5
  | .liftDown => 6
  | .liftUp => 7
  | .tyreAlarmUnacked => 8
  | .tyreFlatAny => 9
  | .tyreMissingAny => 10
  | .warnLine => 11
  | .severeLine => 12
  | .logOverrun => 13
  | .storeBusy => 14
  | .commitPending => 15
  | .calOpen => 16
  | .learnOpen => 17
  | .supplyLow => 18
  | .snapshotReady => 19

/-- The edges of conditions `cs` between two states (R186). -/
def edgesOf (cs : List Condition) (s s' : State) : List Edge :=
  cs.filterMap fun c => if holds c s = holds c s' then none else some ⟨c, holds c s'⟩

/-- A change of state that may change the conditions `cs`: their edges are seen in the event of the change
(R186). -/
def watch (cs : List Condition) (f : State → State) (s : State) : State :=
  let s' := f s
  { s' with edges := s'.edges ++ edgesOf cs s s' }

/-! ## Event queues (R189) -/

/-- Whether a port subscribes to an edge. -/
def PortQueue.wants (q : PortQueue) (e : Edge) : Bool :=
  (if e.rise then q.riseMask else q.fallMask).getLsbD (Sys2Proof.Machine.Condition.bit e.cond)

/-- R189: an edge at time `t` reaches a port's queue. -/
def PortQueue.receive (t : Stamp) (q : PortQueue) (e : Edge) : PortQueue :=
  if q.wants e then
    if q.queue.any fun x => x.edge == e then
      { q with queue := q.queue.map fun x => if x.edge = e then { x with repeats := satIncr 255 x.repeats } else x }
    else if q.queue.length < 16 then { q with queue := q.queue ++ [⟨e, t, 0⟩] }
    else { q with lost := true }
  else q

/-- R189: a port's attention line is asserted while its queue holds an entry. -/
def PortQueue.attention (q : PortQueue) : Bool := !q.queue.isEmpty

/-- An edge reaches the three ports. -/
def State.sendEdge (s : State) (e : Edge) : State :=
  let q := s.pif.queues
  { s with pif := { s.pif with
      queues := ⟨q.a.receive s.now e, q.b.receive s.now e, q.t.receive s.now e⟩ } }

/-- Whether any port subscribes to an edge. -/
def State.wanted (s : State) (e : Edge) : Bool :=
  s.pif.queues.a.wants e || s.pif.queues.b.wants e || s.pif.queues.t.wants e

/-- The edges of the event reach the queues. Where several are wanted their order is free (section 10.8:
"either may be third"; log entry 7). -/
def State.deliver (s : State) : State :=
  let l := s.edges.filter s.wanted
  if l.length ≤ 1 then { l.foldl State.sendEdge s with edges := [] }
  else
    { (freeEdges l.length s.choice l).foldl State.sendEdge s with
      edges := []
      choice := s.choice + l.length }

/-! ## The first-fault context (R165) -/

/-- The context values as they stand. -/
def State.context (s : State) : FaultContext :=
  let ch := fun c => (⟨(s.chan c).state, (s.chan c).sp.value, (s.chan c).sp.mark⟩ : ChannelContext)
  { mode := s.dar.mode
    e := s.dar.e
    ref := s.chc.ref
    appMain := s.leu.appMain
    appLift := s.leu.appLift
    channels := ⟨ch .ml, ch .mr, ch .ll, ch .lr⟩
    lift := s.lac.state
    roll := s.rsu.state }

/-- A channel's context values: its state belongs to the channel controllers and its setpoint with the mark to the
setpoint calculator, so each of the two is chosen on its own. -/
def chooseChannel (k : Nat) (x y z : ChannelContext) : ChannelContext :=
  let sp := chooseOf (k + 1) (x.setpoint, x.mark) (y.setpoint, y.mark) (z.setpoint, z.mark)
  ⟨chooseOf k x.state y.state z.state, sp.1, sp.2⟩

/-- The demand arbiter's context values: a mode and the E that it brings are passed together (R87), so the two are
chosen as one. -/
def chooseDemand (k : Nat) (x y z : FaultContext) : DemandMode × Marked :=
  chooseOf k (x.mode, x.e) (y.mode, y.e) (z.mode, z.e)

/-- Each context value freely chosen between the one at the raise, the one before the event and the one
after it (R165: "A raise and a change of a context value at the same moment may be taken in either
order"; log entry 8). A value with its mark is one value, since its owner publishes the two together. -/
def chooseContext (k : Nat) (x y z : FaultContext) : FaultContext :=
  let d := chooseDemand k x y z
  { mode := d.1
    e := d.2
    ref := chooseOf (k + 1) x.ref y.ref z.ref
    appMain := chooseOf (k + 2) x.appMain y.appMain z.appMain
    appLift := chooseOf (k + 3) x.appLift y.appLift z.appLift
    channels :=
      ⟨chooseChannel (k + 4) x.channels.ml y.channels.ml z.channels.ml,
        chooseChannel (k + 6) x.channels.mr y.channels.mr z.channels.mr,
        chooseChannel (k + 8) x.channels.ll y.channels.ll z.channels.ll,
        chooseChannel (k + 10) x.channels.lr y.channels.lr z.channels.lr⟩
    lift := chooseOf (k + 12) x.lift y.lift z.lift
    roll := chooseOf (k + 13) x.roll y.roll z.roll }

/-- R165 at the end of an event that began in `pre`: the context of a record filled in it. -/
def State.settleFirst (pre s : State) : State :=
  match pre.flm.first, s.flm.first with
  | none, some r =>
    if r.context = pre.context ∧ r.context = s.context then s
    else
      { s with
        flm := { s.flm with
          first := some { r with context := chooseContext s.choice r.context pre.context s.context } }
        choice := s.choice + 14 }
  | _, _ => s

/-! ## The frame of an event -/

/-- The end of an event that began in `pre`. -/
def State.finish (pre s : State) : State := (State.settleFirst pre s).deliver

/-- One event: time passes, the blocks act, and the edges reach the queues. -/
def event (dt : Delay) (f : State → State) (s : State) : Host.Outcome State Fault Refusal :=
  let pre := s.tick dt
  .next (State.finish pre (f pre))

end Sys2Proof.Machine
end

