-- ==== Sys2Proof/Machine/Faults.lean ====
section
/-! DEFINITION. The fault manager (chapter 8): the active fault set, the lines, the first-fault record and
the next-fault list. -/

namespace Sys2Proof.Machine

/-- R163: the lines judged on an active set. -/
def Flm.judgeLines (f : Flm) : Flm :=
  { f with
    warnLine := f.active.any fun a => a.severity != .note
    severeLine := f.active.any fun a => a.severity == .severe }

/-- R167: room for a new entry in a full list: the oldest inactive entry leaves, or, where every entry is
active, the oldest, which sets OVERRUN. -/
def Flm.makeRoom (f : Flm) : Flm :=
  if f.entries.length < 15 then f
  else if f.entries.any fun x => !x.active then
    { f with entries := f.entries.eraseIdx (f.entries.findIdx fun x => !x.active) }
  else { f with entries := f.entries.drop 1, overrun := true }

/-- R167: a raise that added a pair reaches the list. -/
def Flm.record (x : FaultPair) (t : Stamp) (sev : Severity) (f : Flm) : Flm :=
  if f.entries.any fun r => r.pair == x then
    { f with
      entries := f.entries.map fun r =>
        if r.pair = x then { r with lastSeen := t, count := satIncr 255 r.count, active := true, severity := sev }
        else r }
  else
    let f' := f.makeRoom
    { f' with entries := f'.entries ++ [⟨x, t, t, 1, true, sev⟩] }

/-- R162, R165, R167, R163: a raise of a pair that the set does not hold. -/
def Flm.add (x : FaultPair) (t : Stamp) (sev : Severity) (k : FaultContext) (f : Flm) : Flm :=
  let first := match f.first with
    | some r => some r
    | none => some ⟨x, t, sev, k⟩
  Flm.judgeLines (Flm.record x t sev { f with active := f.active ++ [⟨x, t, sev⟩], first := first })

/-- R162, R167, R163: a clear of a pair that the set holds. -/
def Flm.remove (x : FaultPair) (f : Flm) : Flm :=
  Flm.judgeLines { f with
    active := f.active.filter fun a => a.pair != x
    entries := f.entries.map fun r => if r.pair = x then { r with active := false } else r }

/-- The conditions the fault manager drives (R186). -/
def flmConditions : List Condition := [.warnLine, .severeLine, .logOverrun]

/-- R162: a raise. -/
def raise (x : FaultPair) (s : State) : State :=
  if s.faulted x then s
  else
    watch flmConditions (fun s =>
      { s with flm := s.flm.add x s.now (severityOf s.brake x) s.context }) s

/-- R162: a clear. -/
def clear (x : FaultPair) (s : State) : State :=
  if s.faulted x then watch flmConditions (fun s => { s with flm := s.flm.remove x }) s else s

/-- A raise or a clear of a pair. -/
structure FaultOp where
  pair : FaultPair
  up : Bool
deriving DecidableEq, Repr

/-- A raise or a clear taken. -/
def FaultOp.run (s : State) (o : FaultOp) : State := if o.up then raise o.pair s else clear o.pair s

/-- Whether a raise or a clear would change the active set. -/
def FaultOp.acts (s : State) (o : FaultOp) : Bool := o.up != s.faulted o.pair

/-- Raises and clears of different pairs at the same moment, in a free order (R162; log entry 8). -/
def faultOps (l : List FaultOp) (s : State) : State :=
  let q := s.ordered (l.filter (FaultOp.acts s))
  q.1.foldl FaultOp.run q.2

/-- Raises of several pairs at the same moment. -/
def raiseAll (l : List FaultPair) (s : State) : State := faultOps (l.map fun x => ⟨x, true⟩) s

/-- R169: the effective severities under a new brake set. -/
def Flm.reweigh (p : BrakeSet) (f : Flm) : Flm :=
  Flm.judgeLines { f with
    active := f.active.map fun a => { a with severity := severityOf p a.pair }
    entries := f.entries.map fun r => if r.active then { r with severity := severityOf p r.pair } else r }

/-- R169: the severity table recomputed. -/
def reweigh (s : State) : State :=
  watch flmConditions (fun s => { s with flm := s.flm.reweigh s.brake }) s

/-- R168: every inactive entry leaves and OVERRUN is cleared. -/
def clearInactiveEntries (s : State) : State :=
  watch [.logOverrun] (fun s =>
    { s with flm := { s.flm with entries := s.flm.entries.filter fun r => r.active, overrun := false } }) s

/-- R171: the active set is emptied, every entry becomes inactive, and the lines are judged. -/
def emptyActive (s : State) : State :=
  watch flmConditions (fun s =>
    { s with flm := Flm.judgeLines { s.flm with
        active := []
        entries := s.flm.entries.map fun r => { r with active := false } } }) s

end Sys2Proof.Machine
end

