-- ==== Sys2Proof/Machine/Channels.lean ====
section
/-! DEFINITION. What the channel controllers (chapter 6) and the setpoint calculator (chapter 5) do inside an
event: coil commands, channel states, setpoint publications, regulation, anti-lock, coil results. Drag
supervision (R51) stands here too, since every setpoint publication reaches it. -/

namespace Sys2Proof.Machine

/-! ## Coils (R119, R132) -/

/-- R132: a coil commanded on or off at time `t`. A driver with status SHORT is not switched on; a driver
that is switched on sets its on-check 20 ms later; one that is switched off abandons it. -/
def CoilRec.command (t : Stamp) (on : Bool) (r : CoilRec) : CoilRec :=
  let rb := on && r.status != .short
  { r with
    commanded := on
    readback := rb
    onCheck := if rb then (if r.readback then r.onCheck else some (after t 20)) else none }

/-- A coil commanded on or off. -/
def commandCoil (k : Coil) (on : Bool) (s : State) : State :=
  s.setCoil k ((s.coil k).command s.now on)

/-- R119: whether a coil action has a coil on. -/
def CoilAction.on : CoilAction → CoilFn → Bool
  | .apply, .inlet => true
  | .apply, .exhaust => false
  | .apply, .backup => true
  | .hold, .inlet => false
  | .hold, .exhaust => false
  | .hold, .backup => true
  | .vent, .inlet => false
  | .vent, .exhaust => true
  | .vent, .backup => true
  | .release, _ => false

/-- R119: a channel's coil action, applied to its three coils as one act. -/
def setAction (c : Channel) (a : CoilAction) (s : State) : State :=
  let s := s.setChan c { s.chan c with action := a }
  let s := commandCoil (.of c .inlet) (a.on .inlet) s
  let s := commandCoil (.of c .exhaust) (a.on .exhaust) s
  commandCoil (.of c .backup) (a.on .backup) s

/-! ## Entering states (R118) -/

/-- R118, R121: whatever event-driven state the channel was in has ended. -/
def ChannelRec.quit (r : ChannelRec) : ChannelRec :=
  { r with
    phase := .idle
    pLock := none
    ramp := none
    phaseDeadline := none
    held := none
    holdDeadline := none
    side := none
    trackAccum := 0
    trackSince := none }

/-- The channel enters state `st` with coil action `a` and the fields `f` sets. -/
def enter (c : Channel) (st : ChState) (a : CoilAction) (f : ChannelRec → ChannelRec) (s : State) : State :=
  setAction c a (watch [.antilockAny] (fun s => s.setChan c (f { (s.chan c).quit with state := st })) s)

/-- Entry to REGULATE: HOLD until the first regulation decision (R120). -/
def enterRegulate (c : Channel) (s : State) : State := enter c .regulate .hold id s

/-- Whether a setpoint is within `reg_band` of a pressure. -/
def withinBand (p : BrakeSet) (setpoint pressure : Int) : Bool := decide (mag (setpoint - pressure) ≤ p.regBand)

/-- The side of the held pressure a setpoint lies on; absent where they are equal (R138). -/
def sideOf (setpoint held : Int) : Option ConvSide :=
  if setpoint < held then some .below else if held < setpoint then some .above else none

/-- R138: entry to CONVERGE, or to REGULATE at once where the setpoint in the record is within the band. -/
def enterConverge (c : Channel) (s : State) : State :=
  let held := (s.measured c).val
  let sp := (s.chan c).sp.value
  if withinBand s.brake sp held then enterRegulate c s
  else
    enter c .converge .hold (fun r =>
      { r with
        held := some held
        holdDeadline := some (after s.now s.brake.convergeTimeout)
        side := sideOf sp held }) s

/-- R131: entry to SAFE_HOLD. -/
def enterSafeHold (c : Channel) (s : State) : State :=
  enter c .safeHold .hold (fun r =>
    { r with
      held := some (s.measured c).val
      holdDeadline := some (after s.now s.brake.safeHoldTime) }) s

/-- R124, R126, R127: a dump begins; a new episode is counted where `fresh`. -/
def enterDump (fresh : Bool) (c : Channel) (s : State) : State :=
  enter c .antilock .vent (fun r =>
    { r with
      phase := .dump
      pLock := some (s.measured c).val
      phaseDeadline := some (after s.now s.brake.dumpMax)
      episodes := if fresh then satIncr 65535 r.episodes else r.episodes }) s

/-- R125: a dump ends in phase HOLD. P_lock stays. -/
def enterAntilockHold (c : Channel) (s : State) : State :=
  let lock := (s.chan c).pLock
  enter c .antilock .hold (fun r =>
    { r with
      phase := .hold
      pLock := lock
      phaseDeadline := some (after s.now s.brake.holdTime) }) s

/-- R127: the ramp limit, the smaller of the present setpoint and P_lock. -/
def rampLimit (r : ChannelRec) : Int :=
  match r.pLock with
  | some x => min r.sp.value x
  | none => r.sp.value

/-- R127: entry to REAPPLY, or the end of the episode where the ramp target equals its limit. -/
def enterReapply (c : Channel) (s : State) : State :=
  let lock := (s.chan c).pLock
  let target := (s.measured c).val
  if target = rampLimit (s.chan c) then enterRegulate c s
  else
    enter c .antilock .hold (fun r =>
      { r with
        phase := .reapply
        pLock := lock
        ramp := some target
        phaseDeadline := some (after s.now 20) }) s

/-- R127: a ramp step. The deadline moves on by 20 ms. -/
def rampStep (c : Channel) (s : State) : State :=
  let r := s.chan c
  let limit := rampLimit r
  let target := min (r.ramp.getD limit + s.brake.reapplyStep) limit
  if target = limit then enterRegulate c s
  else
    s.setChan c { r with
      ramp := some target
      phaseDeadline := r.phaseDeadline.map fun d => after d 20 }

/-- R128: whether an anti-lock episode ends. -/
def antilockEnds (c : Channel) (s : State) : Bool :=
  let sp := (s.chan c).sp.value
  sp == 0 || isLost s.chc.ref || decide (s.chc.ref.val < 50) ||
    decide (sp < (s.measured c).val - s.brake.regBand)

/-! ## Tracking supervision (R121) -/

/-- R121: a judgement of tracking in REGULATE. -/
def judgeTracking (c : Channel) (s : State) : State :=
  let r := s.chan c
  let m := s.measured c
  if m.mark = .valid then
    if s.brake.trackTol < mag (r.sp.value - m.val) then
      s.setChan c { r with trackSince := some (r.trackSince.getD s.now) }
    else s.setChan c { r with trackAccum := 0, trackSince := none }
  else s.setChan c { r with trackAccum := r.tracking s.now, trackSince := none }

/-! ## Setpoint publication -/

/-- What a setpoint publication does to its channel: converge (R139), end of an anti-lock episode (R128),
tracking (R121). DEDUCED, log entry 21: a publication that itself brings REGULATE is not judged for tracking. -/
def onSetpoint (c : Channel) (s : State) : State :=
  let r := s.chan c
  match r.state with
  | .converge =>
    let held := r.held.getD 0
    let side := sideOf r.sp.value held
    if withinBand s.brake r.sp.value held then enterRegulate c s
    else if side ≠ r.side then enterRegulate c s
    else s.setChan c { r with side := side }
  | .antilock => if antilockEnds c s then enterRegulate c s else s
  | .regulate => judgeTracking c s
  | _ => s

/-- Whether a wheel end is hot (R51). -/
def State.hot (s : State) (w : WheelEnd) : Bool := (s.tyre (tyresOf w).1).hot || (s.tyre (tyresOf w).2).hot

/-- R51: the drag timer and the drag flag after a change of HOT or of the setpoint. -/
def updateDrag (s : State) (w : WheelEnd) : State :=
  let r := s.wheelTyre w
  let run := s.hot w && (s.chan (channelOf w)).sp.value == 0
  let drag := if run then (match r.drag with | .zero => .running s.now | x => x) else .zero
  if r.dragFlag && !s.hot w then
    clear (.brakeDrag w) (s.setWheelTyre w { r with drag := drag, dragFlag := false })
  else s.setWheelTyre w { r with drag := drag }

/-- What the computation of a channel reads (R102, R104, R110). -/
def State.setpointInputs (s : State) (c : Channel) : SetpointInputs :=
  { inhibited := s.dar.mode == .passthrough || (s.chan c).state == .passthrough ||
      (s.chan c).state == .inhibited || s.chanLifted c
    e := s.dar.e
    load := match c with | .ml | .mr => s.leu.appMain | .ll | .lr => s.leu.appLift
    calDefaulted := s.calDefaulted
    derate := (s.groundWheels c).foldl (fun d w => min d (s.wheelTyre w).derate) 1024
    floor := s.rsu.floors.get c
    psr := s.reading .psr }

/-- R103: one computation of a channel. Where the setpoint, its mark or LIMITED changes, the three are
published in the same event. -/
def compute (s : State) (c : Channel) : State :=
  let old := (s.chan c).sp
  let sp := computeSetpoint s.brake c (s.setpointInputs c) s.now
  let s := s.setChan c { s.chan c with sp := sp }
  if old.value = sp.value ∧ old.mark = sp.mark ∧ old.limited = sp.limited then s
  else (wheelsOf c).foldl updateDrag (onSetpoint c s)

/-- The computations of several channels. -/
def computeAll (l : List Channel) (s : State) : State := l.foldl compute s

/-! ## PASSTHROUGH and INHIBITED (R118, R135, R136, R140) -/

/-- R135: the channel enters PASSTHROUGH. A channel overtaken in SAFE_HOLD latches SENSOR (R131). -/
def toPassthrough (c : Channel) (s : State) : State :=
  let r := s.chan c
  if r.state = .passthrough then s
  else
    compute (enter c .passthrough .release (fun x =>
      if r.state = .safeHold then { x with latched := { x.latched with sensor := true } } else x) s) c

/-- A cause joins the latched causes (R134, R130, R131, R121), and the channel enters PASSTHROUGH. A
departure pending flag is cleared (R136). -/
def latch (c : Channel) (f : Latched → Latched) (s : State) : State :=
  let r := s.chan c
  toPassthrough c (s.setChan c { r with latched := f r.latched, departPending := false })

def latchCoil (c : Channel) : State → State := latch c fun l => { l with coil := true }
def latchSensor (c : Channel) : State → State := latch c fun l => { l with sensor := true }
def latchTracking (c : Channel) : State → State := latch c fun l => { l with tracking := true }

/-- R140: the channel enters INHIBITED unless a higher state governs. A channel overtaken in SAFE_HOLD
latches SENSOR (R131), which puts it in PASSTHROUGH. -/
def toInhibited (c : Channel) (s : State) : State :=
  match (s.chan c).state with
  | .passthrough | .inhibited => s
  | .safeHold => latchSensor c s
  | _ => compute (enter c .inhibited .vent id s) c

/-- R136: whether the channel leaves PASSTHROUGH, judged at a change of demand mode, at a removal of latched
causes and at a PD publication. -/
def judgeDeparture (s : State) (c : Channel) : State :=
  let r := s.chan c
  if r.state = .passthrough then
    if s.dar.mode ≠ .passthrough ∧ r.latched.any = false then
      if (s.input (pdOf c)).state = .settling then s.setChan c { r with departPending := true }
      else
        let s := s.setChan c { r with departPending := false }
        if s.chanLifted c then compute (enter c .inhibited .vent id s) c
        else compute (enterConverge c s) c
    else s.setChan c { r with departPending := false }
  else s

/-- R140: in the event in which the lifted flags are cleared, an INHIBITED channel enters REGULATE. -/
def leaveInhibited (c : Channel) (s : State) : State :=
  if (s.chan c).state = .inhibited then compute (enterRegulate c s) c else s

/-- R138: a converge request reaches a channel in REGULATE, CONVERGE or ANTILOCK. -/
def convergeRequest (s : State) (c : Channel) : State :=
  match (s.chan c).state with
  | .regulate | .converge | .antilock => enterConverge c s
  | _ => s

/-! ## PD publications (R120, R121, R128, R130, R131, R136) -/

/-- R120: a regulation decision toward a target. -/
def decide120 (c : Channel) (target : Int) (s : State) : State :=
  let m := s.measured c
  let e := target - m.val
  match m.mark with
  | .valid =>
    if s.brake.regBand < e then setAction c .apply s
    else if e < -s.brake.regBand then setAction c .vent s
    else setAction c .hold s
  | .degraded => setAction c .hold s
  | .lost => s

/-- What a publication of a channel's PD input does; `sampled` says that it follows a sample arrival. -/
def onPressure (c : Channel) (sampled : Bool) (s : State) : State :=
  let r := s.chan c
  match r.state with
  | .passthrough => judgeDeparture s c
  | .inhibited | .converge => s
  | .safeHold => if (s.measured c).mark = .valid then enterConverge c s else s
  | .antilock =>
    if antilockEnds c s then enterRegulate c s
    else if r.phase = .reapply ∧ sampled then decide120 c (r.ramp.getD 0) s
    else s
  | .regulate =>
    let s := judgeTracking c s
    if sampled then decide120 c (s.chan c).sp.value s else s

/-- R130: the safe action, when the channel's PD input has entered LOST. -/
def safeAction (c : Channel) (s : State) : State :=
  match (s.chan c).state with
  | .safeHold => s
  | .passthrough | .inhibited => latchSensor c s
  | _ => if s.brake.holdThenPneumatic then enterSafeHold c s else latchSensor c s

/-! ## Reference speed, slip and anti-lock (R122 to R129) -/

/-- R122: the candidate, the largest VALID published speed of a wheel end on the ground. -/
def State.candidate (s : State) : Option Int :=
  WheelEnd.list.foldl (fun best w =>
    if (s.speed w).mark = .valid ∧ s.lifted w = false then
      some (match best with | none => (s.speed w).val | some x => max x (s.speed w).val)
    else best) none

/-- R122: the reference speed of an evaluation. -/
def nextReference (s : State) : Marked × Option Stamp :=
  match s.candidate with
  | some x =>
    (⟨if isLost s.chc.ref then x else max x (s.chc.ref.val - s.brake.decelStep), .valid⟩, some s.now)
  | none =>
    let stale := match s.chc.lastCandidate with
      | none => true
      | some t => decide (500 ≤ since s.now t)
    (if isLost s.chc.ref || stale then ⟨0, .lost⟩
      else ⟨max 0 (s.chc.ref.val - s.brake.decelStep), .degraded⟩,
      s.chc.lastCandidate)

/-- R123: the slip of a wheel end. -/
def State.wheelSlip (s : State) (w : WheelEnd) : Int :=
  if (s.speed w).mark = .valid ∧ s.lifted w = false ∧ isLost s.chc.ref = false ∧ 50 ≤ s.chc.ref.val then
    slipOf s.chc.ref.val (s.speed w).val
  else 0

/-- R123: the slip of a channel. -/
def State.channelSlip (s : State) (c : Channel) : Int :=
  (s.groundWheels c).foldl (fun m w => if (s.speed w).mark = .valid then max m (s.chc.slips.get w) else m) 0

/-- The channel's slip written into its record. -/
def writeSlip (s : State) (c : Channel) : State := s.setChan c { s.chan c with slip := s.channelSlip c }

/-- R122, R123: the reference speed, the wheel slips and the channel slips of an evaluation. -/
def evaluateReference (s : State) : State :=
  let q := nextReference s
  let s := watch [.standstill] (fun s => { s with chc := { s.chc with ref := q.1, lastCandidate := q.2 } }) s
  let sl := s.wheelSlip
  let s := { s with chc := { s.chc with slips := ⟨sl .w1L, sl .w1R, sl .w2L, sl .w2R, sl .w3L, sl .w3R⟩ } }
  Channel.list.foldl writeSlip s

/-- The side of a channel and of a wheel end. -/
def sideOfChannel : Channel → Side
  | .ml | .ll => .left
  | .mr | .lr => .right
def sideOfWheel : WheelEnd → Side
  | .w1L | .w2L | .w3L => .left
  | .w1R | .w2R | .w3R => .right

/-- R124: the channel is held back by a probe on its side. -/
def State.heldBack (s : State) (c : Channel) : Bool :=
  s.rsu.state == .probe && s.rsu.inner == some (sideOfChannel c)

/-- R124: whether anti-lock is entered. -/
def antilockEnters (c : Channel) (s : State) : Bool :=
  let r := s.chan c
  decide (s.brake.slipEnter ≤ r.slip) && decide (0 < r.sp.value) && !isLost s.chc.ref &&
    decide (50 ≤ s.chc.ref.val) && !s.heldBack c

/-- R124 to R128: anti-lock judged at a reference evaluation. DEDUCED, log entry 36: each channel is judged once, by
the state the evaluation finds it in, so a dump that an evaluation begins is judged by R128 from the next
publication or evaluation on. -/
def judgeAntilock (s : State) (c : Channel) : State :=
  let r := s.chan c
  match r.state with
  | .regulate | .converge => if antilockEnters c s then enterDump true c s else s
  | .antilock =>
    if antilockEnds c s then enterRegulate c s
    else
      match r.phase with
      | .dump => if r.slip ≤ s.brake.slipExit then enterAntilockHold c s else s
      | .hold | .reapply => if s.brake.slipEnter ≤ r.slip then enterDump false c s else s
      | .idle => s
  | _ => s

/-- R129: what an evaluation finds for a channel's ANTILOCK_UNAVAILABLE: a raise, a clear, or nothing. -/
def unavailableOp (s : State) (c : Channel) : List FaultOp :=
  let ws := s.groundWheels c
  if ws.any (fun w => (s.speed w).mark == .valid) || ws.isEmpty then [⟨.antilockUnavailable c, false⟩]
  else if !isLost s.chc.ref && decide (50 ≤ s.chc.ref.val) then [⟨.antilockUnavailable c, true⟩]
  else []

/-- What the channel controllers do at a reference evaluation once the speeds are written: anti-lock for
every channel. DESIGN CHOICE, log entry 44: the channels are judged in the order ML, MR, LL, LR, so in an evaluation in
which one channel leaves ANTILOCK and another enters it, ANTILOCK_ANY falls and rises where the leaving channel was the
last one in and comes first in that order, and keeps its level otherwise. -/
def antilockAll (s : State) : State := Channel.list.foldl judgeAntilock s

/-- R129 for every channel. -/
def judgeUnavailable (s : State) : State := faultOps (Channel.list.flatMap (unavailableOp s)) s

/-! ## Coil results (R132 to R134) -/

/-- The status a result sets (R134). -/
def testStatus : TestResult → CoilStatus
  | .pass => .ok
  | .openCircuit => .openCircuit
  | .short => .short

/-- R134: the faults of a result. -/
def resultOps (k : Coil) : TestResult → List FaultOp
  | .pass => [⟨.coilOpen k, false⟩, ⟨.coilShort k, false⟩]
  | .openCircuit => [⟨.coilOpen k, true⟩, ⟨.coilShort k, false⟩]
  | .short => [⟨.coilShort k, true⟩, ⟨.coilOpen k, false⟩]

/-- R134: the channel that owns a coil latches COIL on a fault. -/
def latchOwner (k : Coil) (x : TestResult) (s : State) : State :=
  match k, x with
  | .lift, _ => s
  | _, .pass => s
  | .of c _, _ => latchCoil c s

/-- R134: a result sets the coil's status, its faults and its channel's latch. A driver whose status leaves
SHORT follows its command again (R132; log entry 25). -/
def coilResult (k : Coil) (x : TestResult) (s : State) : State :=
  let r := s.coil k
  let s := s.setCoil k (({ r with status := testStatus x }).command s.now r.commanded)
  latchOwner k x (faultOps (resultOps k x) s)

/-- The next coil of the patrol (R133). -/
def nextCoil : Coil → Coil
  | .of c .inlet => .of c .exhaust
  | .of c .exhaust => .of c .backup
  | .of .ml .backup => .of .mr .inlet
  | .of .mr .backup => .of .ll .inlet
  | .of .ll .backup => .of .lr .inlet
  | .of .lr .backup => .lift
  | .lift => .of .ml .inlet

end Sys2Proof.Machine
end

