-- ==== Sys2Proof/Machine/Floors.lean ====
section
/-! DEFINITION. What the other blocks reach of the roll stability unit inside an event (chapter 7): its
thresholds (R145) and the publication of its channel floors (R150). -/

namespace Sys2Proof.Machine

/-- The main wheel ends (R72, R145). -/
def mainWheels : List WheelEnd := [.w2L, .w2R, .w3L, .w3R]

/-- R145 step 2: whether a main wheel end is LOW or FLAT. -/
def State.penalty (s : State) : Bool :=
  mainWheels.any fun w => (s.wheelTyre w).cond == .low || (s.wheelTyre w).cond == .flat

/-- R145: the thresholds computed from the published fill and the tyre conditions. -/
def recomputeThresholds (s : State) : State :=
  let a := rollThr s.brake s.leu.fill.val s.penalty
  { s with rsu := { s.rsu with
      fillUsed := s.leu.fill
      penalty := s.penalty
      aThr := a
      aProbe := probeThr s.brake a } }

/-- Whether a roll state gives floors (section 7.4). -/
def givesFloors : RollState → Bool
  | .probe | .intervene | .recover => true
  | _ => false

/-- R150: the floor of a channel. -/
def State.floorOf (s : State) (c : Channel) : Int :=
  match s.rsu.inner with
  | none => 0
  | some side =>
    if !givesFloors s.rsu.state || s.chanLifted c then 0
    else if sideOfChannel c = side then s.rsu.innerFloor
    else s.rsu.outerFloor

/-- R150: the channel floors published; a channel whose floor changes is computed anew (R103). -/
def publishFloors (s : State) : State :=
  let old := s.rsu.floors
  let new : PerChannel Int := ⟨s.floorOf .ml, s.floorOf .mr, s.floorOf .ll, s.floorOf .lr⟩
  computeAll (Channel.list.filter fun c => old.get c != new.get c) { s with rsu := { s.rsu with floors := new } }

end Sys2Proof.Machine
end

