-- ==== Sys2Proof/Machine/Loads.lean ====
section
/-! DEFINITION. The load estimation unit (sections 3.2 to 3.6): sensor loads, group loads, the load freeze,
the fill fraction and the end of a calibration session. -/

namespace Sys2Proof.Machine

/-! ## Fill and applied loads (R60 to R63) -/

/-- R63: the fill from the applied total; a change reaches the roll thresholds (R145). -/
def recomputeFill (s : State) : State :=
  let f := fillOf s.brake s.leu.appTotal
  if f = s.leu.fill then s else recomputeThresholds { s with leu := { s.leu with fill := f } }

/-- The applied loads take new values: a change of the total reaches the fill (R63), a change of a group
reaches the group's channels (R103). -/
def setApplied (main lift total : Marked) (s : State) : State :=
  let old := s.leu
  let s := { s with leu := { s.leu with appMain := main, appLift := lift, appTotal := total } }
  let s := if old.appTotal = total then s else recomputeFill s
  let s := if old.appMain = main then s else computeAll [.ml, .mr] s
  if old.appLift = lift then s else computeAll [.ll, .lr] s

/-- R60: in FOLLOWING the applied loads equal the live loads. -/
def follow (s : State) : State :=
  if s.leu.frozen then s else setApplied s.leu.liveMain s.leu.liveLift s.leu.liveTotal s

/-! ## Live loads (R56 to R58) -/

/-- R56: the sensor load of a bellows input as its input and its record stand. A LOST input leaves the
value last computed. -/
def State.sensorNow (s : State) (b : Bellows) : Marked :=
  let q := s.reading (bellowsInput b)
  if isLost q then ⟨(s.leu.sensor.get b).val, .lost⟩
  else ⟨sensorLoad b (s.leu.cal.get b) q.val, if s.calDefaulted then .degraded else q.mark⟩

/-- R58: the live lift group for the present lift state. -/
def State.liveLiftNow (s : State) : Marked :=
  if s.lac.state = .down then s.leu.sensor.pbx else ⟨0, .valid⟩

/-- R58: the live group loads. -/
def recomputeLive (s : State) : State :=
  let main := mainLoad s.leu.sensor.pbl s.leu.sensor.pbr
  let lift := s.liveLiftNow
  { s with leu := { s.leu with liveMain := main, liveLift := lift, liveTotal := addLoads main lift } }

/-- One sensor load recomputed. -/
def recomputeSensor (s : State) (b : Bellows) : State :=
  { s with leu := { s.leu with sensor := s.leu.sensor.set b (s.sensorNow b) } }

/-- R56, R58, R60: some sensor loads recomputed, then the live loads, then the applied loads. -/
def recomputeSensors (l : List Bellows) (s : State) : State := follow (recomputeLive (l.foldl recomputeSensor s))

/-- R62: a change of lift state reaches the live and the applied lift load in every freeze state. -/
def loadsOnLift (s : State) : State :=
  let s := recomputeLive s
  if s.leu.frozen then
    setApplied s.leu.appMain s.leu.liveLift (addLoads s.leu.appMain s.leu.liveLift) s
  else follow s

/-! ## The load freeze (R59 to R61) -/

/-- R59: whether ALAT is quiet. -/
def State.quiet (s : State) : Bool :=
  isLost (s.reading .alat) || decide (mag (s.reading .alat).val < s.brake.loadHoldAlat)

/-- R61: the release timer in FROZEN: it runs while E is 0 and ALAT is quiet. -/
def timeRelease (s : State) : State :=
  if s.leu.frozen then
    { s with leu := { s.leu with
        release := if s.dar.e.val = 0 ∧ s.quiet = true then some (s.leu.release.getD s.now) else none } }
  else s

/-- R60: a freeze cause; the applied loads keep what they hold. -/
def freezeIf (cause : Bool) (s : State) : State :=
  timeRelease (if cause && !s.leu.frozen then { s with leu := { s.leu with frozen := true, release := none } } else s)

/-- The freeze judged at a publication of E. -/
def loadsOnDemand (s : State) : State := freezeIf (decide (0 < s.dar.e.val)) s

/-- The freeze judged at a publication of ALAT. -/
def loadsOnAlat (s : State) : State := freezeIf (!s.quiet) s

/-- R61: the release timer has run out: the applied loads take the live loads at once. -/
def releaseLoads (s : State) : State :=
  follow { s with leu := { s.leu with frozen := false, release := none } }

/-! ## The calibration session (section 3.6) -/

/-- The session ends: its captures are discarded (R68, R69). -/
def endSession (how : CalEnd) (s : State) : State :=
  watch [.calOpen] (fun s =>
    { s with leu := { s.leu with
        sessionOpen := false
        captures := .all ⟨none, none⟩
        lastEnd := how
        lastEndTime := some s.now } }) s

/-- R69: an open session is aborted. -/
def calAbort (s : State) : State := if s.leu.sessionOpen then endSession .aborted s else s

end Sys2Proof.Machine
end

