-- ==== Sys2Proof/Machine/Roll.lean ====
section
/-! DEFINITION. The roll stability unit (chapter 7): its causes of unavailability, its states and their
transitions. -/

namespace Sys2Proof.Machine

/-! ## Causes (R146) -/

/-- R146: the causes that hold now. -/
def State.rollCauses (s : State) : RollCauses :=
  ⟨isLost (s.reading .alat), isLost s.chc.ref, s.dar.mode == .passthrough⟩

/-- Whether a cause holds. -/
def RollCauses.any (k : RollCauses) : Bool := k.alatLost || k.refLost || k.passthrough

/-- R146: the causes written into the record. -/
def writeCauses (s : State) : State := { s with rsu := { s.rsu with causes := s.rollCauses } }

/-! ## Entering states -/

/-- A change of the roll record that may change ROLL_ACTIVE, followed by the floors' publication (R150). -/
def setRoll (f : Rsu → Rsu) (s : State) : State :=
  publishFloors (watch [.rollActive] (fun s => { s with rsu := f s.rsu }) s)

/-- The record outside PROBE, INTERVENE and RECOVER: no side, no floors, no running time (R148, R150). -/
def Rsu.atRest (st : RollState) (r : Rsu) : Rsu :=
  { r with
    state := st
    inner := none
    innerFloor := 0
    outerFloor := 0
    probeDeadline := none
    quiet := none
    nextStep := none }

/-- Entry to WATCH from another state. -/
def rollToWatch (s : State) : State := setRoll (Rsu.atRest .watch) s

/-- R146: entry to UNAVAILABLE, with its fault. -/
def rollToUnavailable (s : State) : State := raise .rollUnavailable (setRoll (Rsu.atRest .unavailable) s)

/-- R152: PROBE ends without lift; the last probe end is now. -/
def probeEnds (s : State) : State :=
  let t := s.now
  setRoll (fun r => { Rsu.atRest .watch r with lastProbeEnd := some t }) s

/-- The fields a departure from PROBE sets (R144, R151). -/
def Rsu.leaveProbe (t : Stamp) (r : Rsu) : Rsu :=
  if r.state = .probe then { r with probeDeadline := none, lastProbeEnd := some t } else r

/-- R147, R154, R155: entry to RECOVER; the floors and the side are kept. -/
def rollToRecover (s : State) : State :=
  let t := s.now
  setRoll (fun r =>
    { r.leaveProbe t with state := .recover, quiet := none, nextStep := some (after t 100) }) s

/-- R148: the inner side for a sign of ALAT. -/
def sideOfAlat (alat : Int) : Side := if 0 < alat then .left else .right

/-- R149: entry to PROBE. -/
def rollToProbe (s : State) : State :=
  let t := s.now
  let p := s.brake
  let side := sideOfAlat (s.reading .alat).val
  setRoll (fun r =>
    { r with
      state := .probe
      inner := some side
      innerFloor := p.pTest
      outerFloor := 0
      probeDeadline := some (after t p.probeTime) }) s

/-- R151, R153, R156: entry to INTERVENE; `side` sets the inner side anew. -/
def rollToIntervene (cause : IntCause) (side : Option Side) (s : State) : State :=
  let t := s.now
  let p := s.brake
  setRoll (fun r =>
    { r.leaveProbe t with
      state := .intervene
      inner := match side with | some x => some x | none => r.inner
      innerFloor := p.pIntInner
      outerFloor := p.pIntOuter
      quiet := none
      nextStep := none
      cause := some cause }) s

/-! ## Judgements -/

/-- The magnitude of ALAT. -/
def State.alatMag (s : State) : Int := mag (s.reading .alat).val

/-- R149: whether a publication finds the holdoff ended, and the state with a choice it took used up. The end of the
holdoff has no row of its own. DESIGN CHOICE (safe), log entry 45: where the publication comes in the very millisecond
in which the holdoff ends, R149 lets either be taken first, and the model chooses freely. -/
def holdoffOver (s : State) : Bool × State :=
  match s.rsu.lastProbeEnd with
  | none => (true, s)
  | some t =>
    let n := since s.now t
    if n = s.brake.probeHoldoff then s.coin else (decide (s.brake.probeHoldoff < n), s)

/-- R149: in WATCH, entry to PROBE, or through PROBE into INTERVENE. A publication at the end of the holdoff finds it
running or ended, by a free choice (`holdoffOver`, log entry 45); |ALAT| from a_thr on does not ask for it. -/
def judgeEntry (s : State) : State :=
  if s.rsu.state = .watch ∧ s.rollCauses.any = false ∧ s.brake.probeMinSpeed ≤ s.chc.ref.val ∧
      s.rsu.aProbe ≤ s.alatMag then
    if s.rsu.aThr ≤ s.alatMag then rollToIntervene .lateral none (rollToProbe s)
    else
      let h := holdoffOver s
      if h.1 then rollToProbe h.2 else h.2
  else s

/-- R146, R147: the causes judged. In DISABLED nothing is judged (R158). -/
def judgeCauses (s : State) : State :=
  match s.rsu.state with
  | .disabled => s
  | .unavailable =>
    let s := writeCauses s
    if s.rsu.causes.any then s else clear .rollUnavailable (rollToWatch s)
  | .watch =>
    let s := writeCauses s
    if s.rsu.causes.any then rollToUnavailable s else s
  | .probe | .intervene =>
    let s := writeCauses s
    if s.rsu.causes.any then rollToRecover s else s
  | .recover => writeCauses s

/-- R152: the lateral acceleration toward the inner side. -/
def State.inward (s : State) : Int :=
  if s.rsu.inner = some .left then (s.reading .alat).val else -(s.reading .alat).val

/-- R154: the quiet timer at an ALAT publication in INTERVENE. -/
def timeQuiet (s : State) : State :=
  { s with rsu := { s.rsu with
      quiet := if s.alatMag < s.rsu.aThr - s.brake.exitHyst then some (s.rsu.quiet.getD s.now) else none } }

/-- What an ALAT publication does in a state that no cause has moved (R149, R151 to R154, R156; a state
moved to WATCH by this publication is judged by it, log entry 20). DEDUCED, log entry 39: a swap of the sides in
INTERVENE keeps the floors set at the entry, whatever `p_int_inner` and `p_int_outer` are by then. -/
def judgeAlat (s : State) : State :=
  match s.rsu.state with
  | .watch => judgeEntry s
  | .probe =>
    if s.rsu.aThr ≤ s.alatMag then rollToIntervene .lateral (some (sideOfAlat (s.reading .alat).val)) s
    else if s.inward < s.rsu.aProbe - 30 then probeEnds s
    else s
  | .intervene =>
    let side := sideOfAlat (s.reading .alat).val
    if s.rsu.aThr ≤ s.alatMag ∧ s.rsu.inner ≠ some side then
      setRoll (fun r => { r with inner := some side, quiet := none }) s
    else timeQuiet s
  | .recover =>
    if s.rollCauses.any = false ∧ s.rsu.aThr ≤ s.alatMag then
      rollToIntervene .lateral (some (sideOfAlat (s.reading .alat).val)) s
    else s
  | _ => s

/-- What an ALAT publication does. Where a cause has just moved the state to RECOVER it bars R156. -/
def rollOnAlat (s : State) : State := judgeAlat (judgeCauses s)

/-- R151: whether a wheel end on the inner side slips as a lifting wheel does. -/
def State.innerLifts (s : State) : Bool :=
  WheelEnd.list.any fun w => s.rsu.inner == some (sideOfWheel w) && decide (s.brake.liftSlip ≤ s.chc.slips.get w)

/-- What a reference-speed publication does in a state that no cause has moved (R149, R151, R154). DEDUCED, log
entry 20: a slip found at the evaluation that enters PROBE is judged by R151 from the next evaluation on. DEDUCED, log
entry 43: a slip found in PROBE at an evaluation whose reference is below 100 enters INTERVENE, and R154 judges the
reference from the next publication on: that same publication does not end the intervention it began. -/
def judgeReference (s : State) : State :=
  match s.rsu.state with
  | .watch => judgeEntry s
  | .probe => if s.innerLifts then rollToIntervene .wheelLift none s else s
  | .intervene => if s.chc.ref.val < 100 then rollToRecover s else s
  | _ => s

/-- What a reference-speed publication does. -/
def rollOnReference (s : State) : State := judgeReference (judgeCauses s)

/-- What a change of demand mode does (R146, R147). -/
def rollOnMode (s : State) : State := judgeCauses s

/-- R155, R156: a recovery step; the step that leaves both floors at 0 ends the recovery. -/
def rollStep (s : State) : State :=
  let s := setRoll (fun r =>
    { r with
      innerFloor := max 0 (r.innerFloor - 50)
      outerFloor := max 0 (r.outerFloor - 50)
      nextStep := r.nextStep.map fun d => after d 100 }) s
  if s.rsu.innerFloor = 0 ∧ s.rsu.outerFloor = 0 then
    let s := writeCauses s
    if s.rsu.causes.any then rollToUnavailable s else rollToWatch s
  else s

/-- R158: `roll_enable` has become off. -/
def rollDisable (s : State) : State :=
  let t := s.now
  clear .rollUnavailable (setRoll (fun r => Rsu.atRest .disabled (r.leaveProbe t)) s)

/-- R158: `roll_enable` has become on in DISABLED. -/
def rollEnable (s : State) : State :=
  let s := writeCauses { s with rsu := { s.rsu with lastProbeEnd := none } }
  if s.rsu.causes.any then rollToUnavailable s else rollToWatch s

end Sys2Proof.Machine
end

