-- ==== Sys2Proof/Machine/Lift.lean ====
section
/-! DEFINITION. The lift axle controller (sections 3.9 and 3.10): raise conditions, lift states, forced
lowering, requests and the auto timer. -/

namespace Sys2Proof.Machine

/-! ## Raise conditions and triggers (R72, R77) -/

/-- Whether a main wheel end is FLAT. -/
def State.mainFlat (s : State) : Bool := mainWheels.any fun w => (s.wheelTyre w).cond == .flat

/-- Whether the LIFT coil has a fault in the active set. -/
def State.liftCoilFault (s : State) : Bool := s.faulted (.coilOpen .lift) || s.faulted (.coilShort .lift)

/-- R72: raise condition `n`, 1 to 11. -/
def raiseCondition (s : State) (n : Nat) : Bool :=
  match n with
  | 1 => !isLost s.chc.ref && decide (s.chc.ref.val < s.brake.raiseSpeedMax)
  | 2 => s.dar.e.val == 0
  | 3 => !isLost s.leu.appMain && decide (s.leu.appMain.val < s.brake.raiseLoad)
  | 4 => !s.mainFlat
  | 5 => s.rsu.state == .watch || s.rsu.state == .disabled || s.rsu.state == .unavailable
  | 6 => !isLost (s.reading .pbx)
  | 7 => s.dar.mode != .passthrough
  | 8 => !s.faulted .airSupplyLow
  | 9 => !s.liftCoilFault
  | 10 => !isLost (s.reading .pbl) && !isLost (s.reading .pbr)
  | _ => !s.faulted .supplyLow

/-- R72: the first failing raise condition. -/
def firstFailing (s : State) : Option Nat :=
  [1, 2, 3, 4, 5, 6, 7, 8, 9, 10, 11].find? fun n => !raiseCondition s n

/-- R72: what stands against a raise request; absent where it is taken. -/
def raiseBar (s : State) : Option LiftBar :=
  if s.lac.state = .down then (firstFailing s).map .condition else some (.state s.lac.state)

/-- R77: whether a standing forced-lowering trigger holds. The requests and the movement deadline act in
their own events. -/
def State.lowerTrigger (s : State) : Bool :=
  decide (s.brake.lowerLoad < s.leu.appMain.val) || s.rsu.state == .probe || s.rsu.state == .intervene ||
    s.mainFlat || isLost (s.reading .pbl) || isLost (s.reading .pbr) || s.dar.mode == .passthrough ||
    s.faulted .supplyLow || s.liftCoilFault

/-! ## Lift states (R73 to R78) -/

/-- The state is RAISING or UP. -/
def raisedOrRaising : LiftState → Bool
  | .raising | .up => true
  | _ => false

/-- What the channel controllers do at a change of lift state (R140). -/
def channelsOnLift (s : State) : State :=
  if s.lac.state = .down then leaveInhibited .lr (leaveInhibited .ll s)
  else toInhibited .lr (toInhibited .ll s)

/-- R157: while the lifted flags are set the wheel ends of axle 1 report a slip of 0, and so do the channels LL and LR,
which have no other wheel end (R123; DEDUCED, log entry 41). -/
def slipsOnLift (s : State) : State :=
  if s.lac.state = .down then s
  else
    let s := { s with chc := { s.chc with slips := { s.chc.slips with w1L := 0, w1R := 0 } } }
    writeSlip (writeSlip s .ll) .lr

/-- A change of lift state with its movement deadline: the LIFT coil (R71), the loads (R58, R62), the
channels (R140), the setpoints of LL and LR (R103), the floors (R150) and an open calibration session
(R69) follow in the same event, and so do the slips of axle 1 (R157). -/
def setLift (st : LiftState) (deadline : Option Stamp) (s : State) : State :=
  let s := watch [.liftDown, .liftUp] (fun s =>
    { s with lac := { s.lac with state := st, deadline := deadline } }) s
  let s := commandCoil .lift (LiftState.coilOn st) s
  let s := slipsOnLift (loadsOnLift s)
  let s := channelsOnLift s
  let s := computeAll [.ll, .lr] s
  let s := publishFloors s
  if st = .down then s else calAbort s

/-- R76: LIFT_TIMEOUT. -/
def liftTimeout (s : State) : State :=
  raise .liftTimeout { s with lac := { s.lac with timeoutFlag := true } }

/-- R73: the axle begins to rise. -/
def beginRaise (s : State) : State := setLift .raising (some (after s.now s.brake.raiseTimeout)) s

/-- R77: a RAISING or UP axle begins to come down. -/
def forceLower (s : State) : State :=
  if raisedOrRaising s.lac.state then setLift .lowering (some (after s.now s.brake.lowerTimeout)) s else s

/-- R74, R76: the axle is UP by its pressure limit. -/
def reachUp (s : State) : State :=
  let s := setLift .up none s
  if s.lac.timeoutFlag then clear .liftTimeout { s with lac := { s.lac with timeoutFlag := false } } else s

/-- R78: the axle is DOWN. -/
def reachDown (s : State) : State := setLift .down none s

/-- R74, R78: a PBX publication compared with the end limits. -/
def liftOnPbx (s : State) : State :=
  let q := s.reading .pbx
  if q.mark = .valid then
    match s.lac.state with
    | .raising => if q.val < s.brake.pbxUpLimit then reachUp s else s
    | .lowering => if s.brake.pbxDownLimit ≤ q.val then reachDown s else s
    | _ => s
  else s

/-! ## What the controller does at the end of an event (R77, R81) -/

/-- R81: the auto timer runs in AUTO and DOWN while every raise condition holds. -/
def timeAuto (s : State) : State :=
  { s with lac := { s.lac with
      autoTimer :=
        if s.lac.auto = true ∧ raiseBar s = none then some (s.lac.autoTimer.getD s.now) else none } }

/-- R77, R81: the standing triggers and the auto timer, evaluated when what they depend on has changed. -/
def lacReact (s : State) : State := timeAuto (if s.lowerTrigger then forceLower s else s)

/-! ## Requests (R79 to R81) -/

/-- The request latch replaced (R71). -/
def latchRequest (src : LiftSource) (req : LiftRequest) (o : LiftOutcome) (bar : Option LiftBar) (s : State) :
    State :=
  { s with lac := { s.lac with latch := some ⟨src, req, s.now, o, bar⟩ } }

/-- A raise request: taken by R73, or latched with outcome `other` and what stood against it. -/
def requestRaise (src : LiftSource) (other : LiftOutcome) (s : State) : State :=
  match raiseBar s with
  | none => beginRaise (latchRequest src .raise .taken none s)
  | some b => latchRequest src .raise other (some b) s

/-- R79, R80: a lower request, which sets the mode to MANUAL and is a forced-lowering trigger. -/
def requestLower (src : LiftSource) (s : State) : State :=
  let o := if raisedOrRaising s.lac.state then LiftOutcome.taken else .noEffect
  let s := latchRequest src .lower o none s
  forceLower { s with lac := { s.lac with auto := false, autoTimer := none } }

/-- R80: a press of the push-button. In LOWERING it is latched as a raise request that the lift state bars
(R72, R78; DEDUCED, log entry 27). -/
def press (s : State) : State :=
  match s.lac.state with
  | .down => requestRaise .button .ignored s
  | .raising | .up => requestLower .button s
  | .lowering => requestRaise .button .ignored s

end Sys2Proof.Machine
end

