-- ==== Sys2Proof/Machine/Demand.lean ====
section
/-! DEFINITION. The demand arbiter (chapter 4): agreement, demand modes, the effective demand, votes, and the
supervision of the control line and the supply reservoir. -/

namespace Sys2Proof.Machine

/-! ## The effective demand (R86, R87) -/

/-- R86: the value of PCL in the formulas, 0 where it is LOST. -/
def State.pclValue (s : State) : Int := if isLost (s.reading .pcl) then 0 else (s.reading .pcl).val

/-- R86: E for the present mode. -/
def State.effective (s : State) : Marked :=
  let q := s.reading .pcl
  let v := s.pclValue
  match s.dar.mode with
  | .electric => ⟨max (s.dar.agreed.getD s.dar.lastAgreed) v, if isLost q then .degraded else q.mark⟩
  | .holding => ⟨max s.dar.lastAgreed v, .degraded⟩
  | .sensed => ⟨v, q.mark⟩
  | .passthrough => ⟨v, q.mark⟩

/-- E written. -/
def writeE (e : Marked) (s : State) : State := watch [.braking] (fun s => { s with dar := { s.dar with e := e } }) s

/-- R86, R87: E computed and published to the load estimation unit (R60, R61, R69) and, where its value or
mark changes, to the setpoint calculator (R103). -/
def publishE (s : State) : State :=
  let old := s.dar.e
  let s := loadsOnDemand (writeE s.effective s)
  let s := if 0 < s.dar.e.val then calAbort s else s
  if s.dar.e = old then s else computeAll Channel.list s

/-! ## Changes of mode (R87 to R96) -/

/-- R87: a change of mode reaches the channel controllers (R135, R136), the setpoint calculator and the
roll stability unit (R146). -/
def modeReaches (s : State) : State :=
  let s := if s.dar.mode = .passthrough then Channel.list.foldl (fun s c => toPassthrough c s) s else s
  let s := computeAll Channel.list s
  rollOnMode (Channel.list.foldl judgeDeparture s)

/-- The fields of the demand record that a change of mode sets: the votes, the windows and the timers of
the mode that is left end (R88 to R96). -/
def Dar.enter (m : DemandMode) (hold : Option Stamp) (d : Dar) : Dar :=
  { d with
    mode := m
    holdDeadline := hold
    resume := none
    mismatch := none
    startWait := d.startWait && m == .passthrough
    ctrl := ⟨{ d.ctrl.a with resumeVote := false, clearVote := false },
      { d.ctrl.b with resumeVote := false, clearVote := false }⟩ }

/-- R92: DEMAND_STALE and DEMAND_DISAGREE are cleared at every entry to ELECTRIC. -/
def clearDemandFaults (s : State) : State :=
  faultOps [⟨.demandStale .a, false⟩, ⟨.demandStale .b, false⟩, ⟨.demandDisagree, false⟩] s

/-- A change of demand mode, with the E it brings. -/
def enterMode (m : DemandMode) (s : State) : State :=
  let hold := if m = .holding then some (after s.now s.brake.holdLimit) else none
  let s := watch [.electric, .passthrough] (fun s => { s with dar := s.dar.enter m hold }) s
  let s := clear .controlLineMismatch s
  let s := if m = .electric then clearDemandFaults s else s
  modeReaches (publishE s)

/-! ## Agreement (R85, R88, R89, R92, R97) -/

/-- R85: whether the two demands agree, and their agreed value. -/
def agreement (tol : Int) (x y : Ctrl) : Option Int :=
  match x.fresh, y.fresh, x.demand, y.demand with
  | .fresh, .fresh, some a, some b => if mag (a - b) ≤ tol then some (ceilHalf (a + b)) else none
  | _, _, _, _ => none

/-- R85: the agreement fields written. -/
def writeAgreement (s : State) : State :=
  let g := agreement s.brake.agreeTol s.dar.ctrl.a s.dar.ctrl.b
  { s with dar := { s.dar with agree := g.isSome, agreed := g, lastAgreed := g.getD s.dar.lastAgreed } }

/-- R92: the resume window runs in SENSED while both votes are recorded and the demands, both FRESH, agree. -/
def judgeResume (s : State) : State :=
  let run := s.dar.mode == .sensed && s.dar.ctrl.a.resumeVote && s.dar.ctrl.b.resumeVote && s.dar.agree
  { s with dar := { s.dar with
      resume :=
        if run then
          some (match s.dar.resume with
            | some w => w
            | none => ⟨s.now, after s.now s.brake.resumeWindow⟩)
        else none } }

/-- R97: whether the mismatch holds. -/
def State.mismatchHolds (s : State) : Bool :=
  match s.dar.agreed with
  | none => false
  | some x =>
    s.dar.mode == .electric && !isLost (s.reading .pcl) &&
      decide (x + s.brake.mismatchTol < (s.reading .pcl).val)

/-- R97: a judgement of the mismatch. -/
def judgeMismatch (s : State) : State :=
  if s.faulted .controlLineMismatch then
    if s.mismatchHolds then s else clear .controlLineMismatch { s with dar := { s.dar with mismatch := none } }
  else
    { s with dar := { s.dar with
        mismatch := if s.mismatchHolds then some (s.dar.mismatch.getD s.now) else none } }

/-- R85, R88, R89: agreement judged, and what the mode makes of it. -/
def judgeAgreement (s : State) : State :=
  let s := writeAgreement s
  let s := match s.dar.mode with
    | .electric => if s.dar.agree then publishE s else enterMode .holding s
    | .holding => if s.dar.agree then enterMode .electric s else publishE s
    | _ => publishE s
  judgeMismatch (judgeResume s)

/-! ## Events of the demand record -/

/-- R83: a demand is stored as the demand of a port. -/
def storeDemand (k : Controller) (v : Int) (s : State) : State :=
  s.setCtrl k { s.ctrl k with
    demand := some v
    arrival := some s.now
    fresh := .fresh
    deadline := some (after s.now s.brake.demandTimeout) }

/-- R84: a FRESH demand becomes STALE. -/
def staleDemand (k : Controller) (s : State) : State :=
  judgeAgreement (s.setCtrl k { s.ctrl k with fresh := .stale, deadline := none })

/-- R90: the pairs raised at the expiry of a hold. -/
def holdFaults (s : State) : List FaultPair :=
  let stale := fun k => decide ((s.ctrl k).fresh ≠ .fresh)
  (if stale .a then [.demandStale .a] else []) ++ (if stale .b then [.demandStale .b] else []) ++
    (if stale .a || stale .b then [] else [.demandDisagree])

/-- R90: a hold expires. -/
def expireHold (s : State) : State :=
  raiseAll (holdFaults s) (enterMode (if isLost (s.reading .pcl) then .passthrough else .sensed) s)

/-- R92: the resume window completes. The setpoints of the new mode are published before the channels take
the converge request (DEDUCED from the order of R92, log entry 23). -/
def resumeElectric (s : State) : State := Channel.list.foldl convergeRequest (enterMode .electric s)

/-- R94, R96: what the raising of SUPPLY_LOW does to the mode. -/
def demandOnSupplyLow (s : State) : State :=
  if s.dar.mode = .passthrough then
    { s with dar := { s.dar with
        startWait := false
        ctrl := ⟨{ s.dar.ctrl.a with clearVote := false }, { s.dar.ctrl.b with clearVote := false }⟩ } }
  else enterMode .passthrough s

/-- R95: a clear vote recorded; with the other port's vote recorded already the mode becomes SENSED. -/
def recordClear (k : Controller) (s : State) : State :=
  if (s.ctrl k).clearVote then s
  else if (s.ctrl k.other).clearVote then enterMode .sensed s
  else s.setCtrl k { s.ctrl k with clearVote := true }

/-- R95: whether a clear vote is accepted. -/
def State.clearAllowed (s : State) : Bool :=
  s.dar.mode == .passthrough && !s.faulted .supplyLow && !isLost (s.reading .pcl) && !s.dar.startWait &&
    s.cfs.brakeGood

/-- R86, R93, R95 to R97: a PCL publication. -/
def demandOnPcl (s : State) : State :=
  let q := s.reading .pcl
  let s :=
    if isLost q then
      if s.dar.mode = .sensed then enterMode .passthrough s
      else
        publishE { s with dar := { s.dar with
          startWait := s.dar.startWait && (s.input .pcl).state != .lost
          ctrl := ⟨{ s.dar.ctrl.a with clearVote := false }, { s.dar.ctrl.b with clearVote := false }⟩ } }
    else if s.dar.startWait = true ∧ s.dar.mode = .passthrough ∧ q.mark = .valid ∧ s.faulted .supplyLow = false then
      enterMode .sensed s
    else publishE s
  judgeMismatch s

/-- R98: a PSR publication judged for AIR_SUPPLY_LOW. -/
def demandOnPsr (s : State) : State :=
  let q := s.reading .psr
  if s.faulted .airSupplyLow then
    if isLost q = false ∧ s.brake.psrLow + 30 < q.val then clear .airSupplyLow s else s
  else
    let low := !isLost q && decide (q.val < s.brake.psrLow)
    { s with dar := { s.dar with airLow := if low then some (s.dar.airLow.getD s.now) else none } }

/-- R84, R91, R95: what a port reset does to its port's demand. -/
def demandOnPortReset (k : Controller) (s : State) : State :=
  let c := s.ctrl k
  let s := s.setCtrl k { c with resumeVote := false, clearVote := false }
  judgeResume (if c.fresh = .fresh then staleDemand k s else s)

end Sys2Proof.Machine
end

