-- ==== Sys2Proof/Machine/Inputs.lean ====
section
/-! DEFINITION. The input conditioning unit (chapter 1): the input state machine, publications and their
consumers, wheel speeds and the solenoid supply monitor. -/

namespace Sys2Proof.Machine

/-! ## The input state machine (R8 to R14) -/

/-- The band and the last reading that a sample leaves (R6, R10). -/
def InputRec.noteSample (i : InputId) (reading : Int) (bad : InCause) (t : Stamp) (r : InputRec) : InputRec :=
  { r with
    last := reading
    lastSample := t
    band := if bad = .none then bandOf i reading else r.band }

/-- R8, R10, R11: a good sample joins the window and the filtered value is recomputed; the input is VALID. -/
def InputRec.goodSample (n : Nat) (x : Int) (r : InputRec) : InputRec :=
  let w := joinWindow n r.window x
  { r with state := .valid, window := w, filtered := mean w, holdDeadline := none, cause := .none }

/-- R13, R14: the input becomes VALID with the sample as its only reading. -/
def InputRec.restart (x : Int) (r : InputRec) : InputRec :=
  { r with
    state := .valid
    window := [x]
    filtered := x
    cause := .none
    raised := .none
    runStart := none
    holdDeadline := none }

/-- R13, R14: a good sample of a run that completes 100 ms, or that starts or continues one. -/
def InputRec.goodRun (x : Int) (t : Stamp) (r : InputRec) : InputRec :=
  if ranFor t 100 r.runStart then r.restart x
  else { r with runStart := some (r.runStart.getD t) }

/-- R14: a good sample in SETTLING cancels a bad run, whose start it clears with its deadline and its cause; the
start of a good run stands. -/
def InputRec.cancelBadRun (r : InputRec) : InputRec :=
  { r with
    runStart := if r.holdDeadline.isSome then none else r.runStart
    holdDeadline := none
    cause := .none }

/-- R14: a bad sample in SETTLING. The first of a bad run ends a good run, and sets the run start (R7) and the
deadline; each further one leaves both. -/
def InputRec.badRun (hold : Nat) (bad : InCause) (t : Stamp) (r : InputRec) : InputRec :=
  { r with
    cause := bad
    runStart := if r.holdDeadline.isSome then some (r.runStart.getD t) else some t
    holdDeadline := some (r.holdDeadline.getD (after t hold)) }

/-- R10 to R14: a sample, noted already, moves the input. `x` is the clamped reading. -/
def InputRec.take (n hold : Nat) (x : Int) (bad : InCause) (t : Stamp) (r : InputRec) : InputRec :=
  match r.state, bad with
  | .valid, .none => r.goodSample n x
  | .valid, _ => { r with state := .hold, cause := bad, holdDeadline := some (after t hold) }
  | .hold, .none => r.goodSample n x
  | .hold, _ => { r with cause := bad }
  | .lost, .none => r.goodRun x t
  | .lost, _ => { r with runStart := none }
  | .settling, .none => r.cancelBadRun.goodRun x t
  | .settling, _ => r.badRun hold bad t

/-- The fault a raised kind stands for (R12). -/
def raisedPair (i : InputId) : RaisedKind → Option FaultPair
  | .none => none
  | .inputRange => some (.inputRange i)
  | .inputOpen => some (.inputOpen i)

/-- R12, R14: the record of an input whose deadline has passed. -/
def InputRec.expire (r : InputRec) : InputRec :=
  { r with
    state := .lost
    holdDeadline := none
    runStart := none
    raised := if r.cause = .openWire then .inputOpen else .inputRange }

/-! ## The solenoid supply monitor (R22, R23) -/

/-- R22: judged while SUPPLY_LOW is not raised, by the `vsol_min` of the latest VSOL publication (R23). -/
def judgeLow (s : State) : State :=
  let r := s.input .vsol
  let low := r.state == .lost || ((r.state == .valid || r.state == .hold) && decide (r.filtered < s.icu.vsolMin))
  { s with icu := { s.icu with
      lowTimer := if low then some (s.icu.lowTimer.getD (after s.now 20)) else none } }

/-- R23: judged while SUPPLY_LOW is raised, by the same `vsol_min`. -/
def judgeClear (s : State) : State :=
  let r := s.input .vsol
  let ok := (r.state == .valid || r.state == .hold) && decide (s.icu.vsolMin + 1000 < r.filtered)
  { s with icu := { s.icu with
      clearTimer := if ok then some (s.icu.clearTimer.getD (after s.now 500)) else none } }

/-- A VSOL publication, from which a changed `vsol_min` applies (R23). -/
def judgeSupply (s : State) : State :=
  let s := { s with icu := { s.icu with vsolMin := s.brake.vsolMin } }
  if s.icu.supplyLow then judgeClear s else judgeLow s

/-- R22: SUPPLY_LOW is raised and reaches the demand arbiter (R94). -/
def raiseSupplyLow (s : State) : State :=
  let s := watch [.supplyLow] (fun s => { s with icu := { s.icu with supplyLow := true, lowTimer := none } }) s
  demandOnSupplyLow (raise .supplyLow s)

/-- R23: SUPPLY_LOW is cleared, and VSOL is judged again under R22. DEDUCED, log entry 34: the judgement is made at
the expiry itself, on the state and the value that VSOL last published and the `vsol_min` of that publication. -/
def clearSupplyLow (s : State) : State :=
  let s := watch [.supplyLow] (fun s => { s with icu := { s.icu with supplyLow := false, clearTimer := none } }) s
  judgeLow (clear .supplyLow s)

/-! ## Publications (R15) -/

/-- R15: the publication of an input reaches its consumers. `old` is what its record held before the sample or the
expiry, `sampled` says that a sample arrived, `failed` that the input has just entered LOST. DEDUCED, log entry 35:
after a reset the record as R24 sets it counts as the previous publication of PSR. -/
def publish (i : InputId) (old : Marked) (sampled failed : Bool) (s : State) : State :=
  match i with
  | .pdML => onPressure .ml sampled (if failed then safeAction .ml s else s)
  | .pdMR => onPressure .mr sampled (if failed then safeAction .mr s else s)
  | .pdLL => onPressure .ll sampled (if failed then safeAction .ll s else s)
  | .pdLR => onPressure .lr sampled (if failed then safeAction .lr s else s)
  | .pcl => demandOnPcl s
  | .psr => demandOnPsr (if s.reading .psr = old then s else computeAll Channel.list s)
  | .pbl => recomputeSensors [.pbl] s
  | .pbr => recomputeSensors [.pbr] s
  | .pbx => liftOnPbx (recomputeSensors [.pbx] s)
  | .alat => rollOnAlat (loadsOnAlat s)
  | .vsol => judgeSupply s

/-- R5 to R15: a sample arrives. -/
def sampleArrives (i : InputId) (reading : Int) (openWire : Bool) (s : State) : State :=
  let old := s.reading i
  let bad := badCause i reading openWire
  let r := s.input i
  let r' := InputRec.take (s.brake.inFilter i) s.brake.inHoldTime (clampReading i reading) bad s.now
    (r.noteSample i reading bad s.now)
  let s := s.setInput i r'
  let s :=
    match r.state, r'.state, raisedPair i r.raised with
    | .lost, .valid, some x => clear x s
    | _, _, _ => s
  publish i old true false s

/-- R12, R14, R15: the deadline of an input in HOLD or in SETTLING has passed. -/
def inputFails (i : InputId) (s : State) : State :=
  let old := s.reading i
  let r := (s.input i).expire
  let s := s.setInput i r
  let s := match raisedPair i r.raised with
    | some x => raise x s
    | none => s
  publish i old false true s

/-! ## Wheel speeds (R16 to R21) -/

/-- R16: a tooth edge at the microsecond time `us`. -/
def WheelRec.edge (us : Stamp) (r : WheelRec) : WheelRec :=
  { r with
    count := r.count + 1
    firstEdge := some (r.firstEdge.getD us)
    ivLastEdge := some us
    lastEdge := some us }

/-- R17 to R20: the evaluation of a wheel end at the microsecond time `us`. -/
def WheelRec.evaluate (c t : Int) (us : Stamp) (r : WheelRec) : WheelRec :=
  let v := wheelSpeed c t r us
  let st := if r.state = .settling ∧ 1 ≤ r.count ∧ r.openWire = false then InState.valid else r.state
  { r with
    state := st
    computed := v
    published := if st = .valid then v else r.published
    latestCount := r.count
    count := 0
    firstEdge := none
    ivLastEdge := none }

/-- R17: one wheel end of an evaluation. -/
def evaluateWheel (s : State) (w : WheelEnd) : State :=
  s.setWheel w ((s.wheel w).evaluate (s.brake.circ w) s.brake.teethPerRev s.nowUs)

/-- R19 to R21: the open-wire indication appears. -/
def WheelRec.wireOpens (hold : Nat) (t : Stamp) (r : WheelRec) : WheelRec :=
  if r.openWire then r
  else
    let r := { r with openWire := true }
    match r.state with
    | .settling => { r with holdDeadline := some (after t hold) }
    | .valid => { r with state := .hold, holdDeadline := some (after t hold) }
    | .hold => r
    | .lost => { r with recoveryEnd := none }

/-- R19 to R21: the open-wire indication disappears. -/
def WheelRec.wireCloses (t : Stamp) (r : WheelRec) : WheelRec :=
  if r.openWire then
    let r := { r with openWire := false }
    match r.state with
    | .settling => { r with holdDeadline := none }
    | .valid => r
    | .hold => { r with state := .valid, published := r.computed, holdDeadline := none }
    | .lost => { r with recoveryEnd := some (after t 100) }
  else r

/-- R19, R20: the deadline of an open-wire indication has passed. -/
def wheelFails (w : WheelEnd) (s : State) : State :=
  raise (.wheelSpeedLost w)
    (s.setWheel w { s.wheel w with state := .lost, published := 0, holdDeadline := none, recoveryEnd := none })

/-- R21: the 100 ms without the indication have passed. -/
def wheelRecovers (w : WheelEnd) (s : State) : State :=
  clear (.wheelSpeedLost w)
    (s.setWheel w { s.wheel w with state := .settling, published := 0, recoveryEnd := none })

end Sys2Proof.Machine
end

