-- ==== Sys2Proof/Machine/Store.lean ====
section
/-! DEFINITION. The non-volatile store (sections 9.5 and 9.6): dirty sections, writes, and what a hard reset
finds in a section. -/

namespace Sys2Proof.Machine

/-- The first dirty section in the order of R178. -/
def State.firstDirty (s : State) : Option Section := Section.list.find? fun x => (s.sect x).dirty

/-- R178: a write begins on the first dirty section where none is in flight. -/
def beginWrite (s : State) : State :=
  if s.cfs.write.isSome then s
  else
    match s.firstDirty with
    | none => s
    | some x =>
      let s := { s with cfs := { s.cfs with write := some ⟨x, s.content x⟩ } }
      s.setSect x { s.sect x with dirty := false }

/-- Whether a section's state is BLANK. -/
def State.anyBlank (s : State) : Bool := Section.list.any fun x => (s.sect x).state == .blank

/-- R178: a section marked dirty, and, while any section is BLANK, every BLANK section with it. -/
def setDirty (x : Section) (s : State) : State :=
  let blank := s.anyBlank
  Section.list.foldl (fun s y =>
    if y = x ∨ (blank = true ∧ (s.sect y).state = .blank) then s.setSect y { s.sect y with dirty := true } else s) s

/-- R178: a section marked dirty; a write begins where none is in flight. -/
def markDirty (x : Section) (s : State) : State := watch [.storeBusy] (fun s => beginWrite (setDirty x s)) s

/-- R178: the write in flight has ended and its check found `pass`. -/
def endWrite (w : WriteRun) (pass : Bool) (s : State) : State :=
  watch [.storeBusy] (fun s =>
    let s := { s with cfs := { s.cfs with
      write := none
      lastWrite := if pass then .pass else .fail
      lastWriteTime := some s.now } }
    let r := s.sect w.sect
    let s :=
      if pass then clear (.storeCheck w.sect) (s.setSect w.sect { r with state := .good, stored := .good w.content })
      else raise (.storeCheck w.sect) (setDirty w.sect (s.setSect w.sect { r with stored := .failing }))
    beginWrite s) s

/-! ## What a hard reset finds (R179) -/

/-- What the reset finds in a section: the medium's content as it was left, damaged or erased; a write in
flight leaves the section failing its check (R178). -/
def foundIn (f : Found) (inFlight : Bool) (x : Stored) : Stored :=
  if inFlight then .failing
  else
    match f with
    | .asStored => x
    | .damaged => .failing
    | .erased => .blank

/-- The sections as a hard reset finds them. -/
def State.foundSections (s : State) (found : PerSection Found) : PerSection Stored :=
  let f := fun x => foundIn (found.get x) ((s.cfs.write.map (·.sect)) == some x) (s.sect x).stored
  ⟨f .brakeConfig, f .tyreConfig, f .calibration, f .bindings⟩

/-- R179: the state of a section, where `blank` says that all four are BLANK. -/
def sectionState (blank : Bool) : Stored → SecState
  | .good _ => .good
  | _ => if blank then .blank else .defaulted

/-- Whether every section is BLANK. -/
def allBlank (f : PerSection Stored) : Bool := Section.list.all fun x => f.get x == .blank

/-- The brake set a hard reset makes active. -/
def brakeFrom : Stored → BrakeSet
  | .good (.brake p) => p
  | _ => .factory

/-- The tyre set a hard reset makes active. -/
def tyreFrom : Stored → TyreSet
  | .good (.tyre p) => p
  | _ => .factory

/-- R55: the calibration records a hard reset loads. -/
def calFrom : Stored → PerBellows CalRec
  | .good (.calibration p) =>
    ⟨{ p.pbl with confirmed := true }, { p.pbr with confirmed := true }, { p.pbx with confirmed := true }⟩
  | _ => calFactory false

/-- R53: the bindings a hard reset loads. -/
def bindingsFrom : Stored → PerTyre (Option (BitVec 32))
  | .good (.bindings p) => p
  | _ => .all none

/-- R179: the configuration store after a hard reset that found `f`. -/
def Cfs.hard (f : PerSection Stored) : Cfs :=
  let blank := allBlank f
  let sec := fun x => (⟨sectionState blank (f.get x), false, f.get x⟩ : SectionRec)
  { brake := brakeFrom f.brakeConfig
    stagedBrake := brakeFrom f.brakeConfig
    tyre := tyreFrom f.tyreConfig
    stagedTyre := tyreFrom f.tyreConfig
    commit := .hard
    sections := ⟨sec .brakeConfig, sec .tyreConfig, sec .calibration, sec .bindings⟩
    write := none
    lastWrite := .none
    lastWriteTime := none
    brakeGood := sectionState blank f.brakeConfig == .good
    unconfigured := blank }

/-- R179: the pairs the store raises at a hard reset that found `f`. -/
def storeFaults (f : PerSection Stored) : List FaultPair :=
  if allBlank f then [.unconfigured]
  else (Section.list.filter fun x => sectionState false (f.get x) != .good).map .storeCheck

end Sys2Proof.Machine
end

