-- ==== Sys2Proof/Machine/Tyres.lean ====
section
/-! DEFINITION. The tyre telegram receiver (chapter 2): the telegram line, tyre records, wheel-end
conditions, strangers, learning and unbinding. -/

namespace Sys2Proof.Machine

/-! ## Wheel-end conditions (R49, R50) -/

/-- R50: TYRE_FLAT follows a wheel end's condition. -/
def flatFault (w : WheelEnd) (old new : TyreCond) (s : State) : State :=
  if new = .flat ∧ old ≠ .flat then raise (.tyreFlat w) s
  else if old = .flat ∧ new ≠ .flat then clear (.tyreFlat w) s
  else s

/-- R49: the condition and derate of a wheel end recomputed. A change reaches the fault manager (R50), the
roll thresholds (R145, main wheel ends) and the setpoint of its channel (R103). -/
def judgeWheel (s : State) (w : WheelEnd) : State :=
  let r := s.wheelTyre w
  let c := wheelCond (s.tyre (tyresOf w).1) (s.tyre (tyresOf w).2)
  let d := derateOf s.brake c
  if r.cond = c ∧ r.derate = d then s
  else
    let s := watch [.tyreFlatAny] (fun s => s.setWheelTyre w { r with cond := c, derate := d }) s
    let s := flatFault w r.cond c s
    let s := if r.cond ≠ c ∧ w ∈ mainWheels then recomputeThresholds s else s
    if r.derate = d then s else compute s (channelOf w)

/-- A tyre record written, with what follows: the conditions of R50, the wheel end's condition (R49) and
its drag supervision (R51). -/
def writeTyre (y : Tyre) (r : TyreRec) (s : State) : State :=
  let hot := (s.tyre y).hot
  let s := watch [.tyreAlarmUnacked, .tyreMissingAny] (fun s => s.setTyre y r) s
  let s := if hot = r.hot then s else updateDrag s (wheelOf y)
  judgeWheel s (wheelOf y)

/-! ## Serving a telegram (R35 to R43) -/

/-- R41: the re-inflation check. -/
def reinflated (r : TyreRec) (comp : Int) : Bool :=
  match r.compensated with
  | some x => decide (x + 30 ≤ comp)
  | none => false

/-- R40: whether a telegram takes a trend sample. -/
def takesSample (interval : Nat) (ring : List (Stamp × Int)) (t : Stamp) : Bool :=
  match ring.getLast? with
  | none => true
  | some q => decide (interval ≤ since t q.1)

/-- R43: the acknowledged set after the alarms have been judged; `hotNew` and `leakNew` say that HOT and
LEAK have become set at this telegram. -/
def keepAck (r : TyreRec) (hotNew leakNew : Bool) : Option Ack :=
  match r.acked with
  | none => none
  | some a =>
    if a.level.rank < r.level.rank || hotNew || leakNew || !r.hasAlarm then none else some a

/-- R35: the record of position `y` after a telegram is served to it. -/
def TyreRec.serve (p : TyreSet) (y : Tyre) (g : Telegram) (r : TyreRec) : TyreRec :=
  let comp := compensate g.pressure g.temperature
  let again := reinflated r comp
  let ring := if again then [] else r.trend
  let leak := if again then false else r.leak
  let sample := takesSample p.trendInterval ring g.time
  let ring' := if sample then takeSample p.leakWindow ring g.time comp else ring
  let leak' := if sample then judgeLeak p.leakDrop ring' leak else leak
  let hot' := judgeHot p g.temperature r.hot
  let r' := { r with
    state := .live
    profile := some g.profile
    pressure := some g.pressure
    temperature := g.temperature
    compensated := some comp
    strength := some g.strength
    lastTime := some g.time
    missingDeadline := some (after g.time p.missingTimeout)
    deadlineBase := some g.time
    lowBattery := g.lowBattery
    level := judgeLevel p y g.pressure comp r.level
    hot := hot'
    leak := leak'
    trend := ring' }
  { r' with acked := keepAck r' (hot' && !r.hot) (leak' && !r.leak) }

/-- R35: a telegram served to a position. -/
def serve (y : Tyre) (g : Telegram) (s : State) : State := writeTyre y ((s.tyre y).serve s.tyreSet y g) s

/-! ## Learning and strangers (R44 to R48) -/

/-- The learn slot empties with an outcome (R46, R47). -/
def endLearn (o : LearnOutcome) (y : Tyre) (id : Option (BitVec 32)) (t : Stamp) (s : State) : State :=
  watch [.learnOpen] (fun s =>
    { s with ttr := { s.ttr with learn := ⟨none, o, some y, id, some t⟩ } }) s

/-- R47: an open learn that `reached` is cancelled. -/
def cancelLearn (reached : LearnSlot → Bool) (s : State) : State :=
  match s.ttr.learn.slot with
  | none => s
  | some x => if reached x then endLearn .cancelled x.position none s.now s else s

/-- R47: the slot's deadline has passed; the outcome time is the deadline. -/
def failLearn (s : State) : State :=
  match s.ttr.learn.slot with
  | none => s
  | some x => endLearn .failed x.position none x.deadline s

/-- R46: an ID is bound to the learn slot's position, and its telegram is served there. -/
def bindSensor (x : LearnSlot) (g : Telegram) (s : State) : State :=
  let y := x.position
  let s := writeTyre y { TyreRec.cleared with
    bound := some g.id
    state := .awaiting
    missingDeadline := some (after g.time s.tyreSet.missingTimeout)
    deadlineBase := some g.time } s
  let s := serve y g s
  let s := { s with ttr := { s.ttr with strangers := s.ttr.strangers.filter fun e => e.id != g.id } }
  let s := markDirty .bindings s
  endLearn .bound y (some g.id) g.time s

/-- R44: the stranger list after a telegram. -/
def noteStranger (g : Telegram) (l : List Stranger) : List Stranger :=
  match l.find? fun e => e.id == g.id with
  | some e =>
    { e with
      profile := g.profile
      pressure := g.pressure
      strength := g.strength
      sightings := satIncr 255 e.sightings
      lastSeen := g.time } :: l.filter fun e => e.id != g.id
  | none => ⟨g.id, g.profile, g.pressure, g.strength, 1, g.time⟩ :: l.take 7

/-- R44: a telegram recorded in the stranger list. -/
def recordStranger (g : Telegram) (s : State) : State :=
  { s with ttr := { s.ttr with
      strangers := noteStranger g s.ttr.strangers
      strangerCount := satIncr 65535 s.ttr.strangerCount } }

/-- The position an ID is bound to. -/
def State.boundTo (s : State) (id : BitVec 32) : Option Tyre := Tyre.list.find? fun y => (s.tyre y).bound == some id

/-- R33: a decoded telegram dispatched by its ID. -/
def dispatch (g : Telegram) (s : State) : State :=
  match s.boundTo g.id, s.ttr.learn.slot with
  | some y, none => serve y g s
  | some y, some x => if g.alert = true ∧ x.position = y then bindSensor x g s else serve y g s
  | none, some x => if g.alert then bindSensor x g s else recordStranger g s
  | none, none => recordStranger g s

/-- R48: the record at a position is cleared. -/
def unbindTyre (y : Tyre) (s : State) : State :=
  let had := (s.tyre y).bound.isSome
  let s := writeTyre y TyreRec.cleared s
  let s := if had then markDirty .bindings s else s
  cancelLearn (fun x => x.position == y) s

/-- R34: the missing deadline of a record has passed. -/
def tyreMissing (y : Tyre) (s : State) : State :=
  writeTyre y { s.tyre y with state := .missing, missingDeadline := none, deadlineBase := none } s

/-! ## The telegram line (R25, R26, R30) -/

/-- R30: a telegram is matched, counted and dispatched, or counted format-rejected. -/
def telegram (payload : List Byte) (strength : Byte) (s : State) : State :=
  match matchProfile s.tyreSet payload with
  | none => { s with ttr := { s.ttr with formatRejected := satIncr 65535 s.ttr.formatRejected } }
  | some k =>
    dispatch ((s.tyreSet.profile k).decode k payload strength s.now)
      { s with ttr := { s.ttr with accepted := satIncr 65535 s.ttr.accepted } }

/-- R26: a frame, length byte first, has completed. -/
def frameCompletes (frame : List Byte) (s : State) : State :=
  let s := { s with ttr := { s.ttr with rx := none, gapDeadline := none } }
  if sumOk frame then
    let body := frame.drop 1
    telegram (body.take (body.length - 2)) (body.getD (body.length - 2) 0) s
  else { s with ttr := { s.ttr with checkRejected := satIncr 65535 s.ttr.checkRejected } }

/-- R25: the length of the whole frame that a length byte begins. -/
def frameLength (frame : List Byte) : Nat := (frame.headD 0).toNat + 3

/-- R25: whether a byte may be a frame's length byte. -/
def lengthOk (b : Byte) : Bool := decide (4 ≤ b.toNat) && decide (b.toNat ≤ 16)

/-- Whether the next byte completes the frame in reception. -/
def State.completes (s : State) : Bool :=
  match s.ttr.rx with
  | none => false
  | some f => decide (frameLength f ≤ f.length + 1)

/-- R25: a byte arrives on the telegram line. -/
def lineByte (b : Byte) (s : State) : State :=
  match s.ttr.rx with
  | none =>
    if lengthOk b then { s with ttr := { s.ttr with rx := some [b], gapDeadline := some (after s.now 5) } }
    else { s with ttr := { s.ttr with formatRejected := satIncr 65535 s.ttr.formatRejected } }
  | some f =>
    if frameLength f ≤ f.length + 1 then frameCompletes (f ++ [b]) s
    else { s with ttr := { s.ttr with rx := some (f ++ [b]), gapDeadline := some (after s.now 5) } }

/-- R25: a frame in reception is abandoned. -/
def abandonFrame (s : State) : State := { s with ttr := { s.ttr with rx := none, gapDeadline := none } }

/-! ## Brake drag (R51) -/

/-- R51: the drag timer of a wheel end has reached 60 s. -/
def dragReached (w : WheelEnd) (s : State) : State :=
  raise (.brakeDrag w) (s.setWheelTyre w { s.wheelTyre w with drag := .full, dragFlag := true })

/-- R51: whether the drag timer of a wheel end has run 60 s. -/
def State.dragDue (s : State) (w : WheelEnd) : Bool :=
  match (s.wheelTyre w).drag with
  | .running t => decide (60000 ≤ since s.now t)
  | _ => false

/-! ## Acknowledgement (R42) -/

/-- R42: TYRE_ACK_SET for one record. -/
def TyreRec.ackNow (r : TyreRec) : TyreRec :=
  if r.hasAlarm then { r with acked := some ⟨r.level, r.hot, r.leak⟩ } else r

/-- R42: the records a mask names are changed by `f`. -/
def ackTyres (mask : Nat) (f : TyreRec → TyreRec) (s : State) : State :=
  watch [.tyreAlarmUnacked] (fun s =>
    (Tyre.list.zipIdx.filter fun q => mask.testBit q.2).foldl (fun s q => s.setTyre q.1 (f (s.tyre q.1))) s) s

end Sys2Proof.Machine
end

