-- ==== Sys2Proof/Machine/Commit.lean ====
section
/-! DEFINITION. The commits of chapter 9: how each block takes up new brake-class values (R9, R11, R49, R61,
R63, R99, R115, R142, R145, R158, R169) and new tyre-class values (R52), and the end of a brake commit. -/

namespace Sys2Proof.Machine

/-! ## New brake-class values -/

/-- R9: a changed `in_filter` empties its input's window, and the input is published. -/
def takeFilter (old : BrakeSet) (s : State) (i : InputId) : State :=
  if old.inFilter i = s.brake.inFilter i then s
  else publish i (s.reading i) false false (s.setInput i { s.input i with window := [] })

/-- R11: a deadline that runs from its start time, for a changed `in_hold_time`. -/
def moveDeadline (old new : Nat) (d : Option Stamp) : Option Stamp :=
  d.map fun x => x + BitVec.ofNat 32 new - BitVec.ofNat 32 old

/-- R11: the deadline of an input in HOLD or SETTLING moves. -/
def moveInputHold (old : BrakeSet) (s : State) (i : InputId) : State :=
  let r := s.input i
  s.setInput i { r with holdDeadline := moveDeadline old.inHoldTime s.brake.inHoldTime r.holdDeadline }

/-- R11: the deadline of a wheel end's open-wire indication moves likewise. -/
def moveWheelHold (old : BrakeSet) (s : State) (w : WheelEnd) : State :=
  let r := s.wheel w
  s.setWheel w { r with holdDeadline := moveDeadline old.inHoldTime s.brake.inHoldTime r.holdDeadline }

/-- What has a deadline that `in_hold_time` sets (R11). -/
inductive HoldSubject where
  | input (i : InputId)
  | wheel (w : WheelEnd)
deriving DecidableEq, Repr

/-- Every input and every wheel end. -/
def holdSubjects : List HoldSubject := InputId.list.map .input ++ WheelEnd.list.map .wheel

/-- R11: whether a deadline that `in_hold_time` sets has passed. -/
def State.holdPassed (s : State) : HoldSubject → Bool
  | .input i => ((s.input i).state == .hold || (s.input i).state == .settling) && dueAt s.now (s.input i).holdDeadline
  | .wheel w => ((s.wheel w).state == .hold || (s.wheel w).state == .settling) && dueAt s.now (s.wheel w).holdDeadline

/-- R11: a deadline that has passed expires (R12, R14, R19, R20). -/
def expireHoldOf (s : State) (x : HoldSubject) : State :=
  if s.holdPassed x then
    match x with
    | .input i => inputFails i s
    | .wheel w => wheelFails w s
  else s

/-- R11 for every input and wheel end: a changed `in_hold_time` moves their deadlines. -/
def moveHolds (old : BrakeSet) (s : State) : State :=
  if old.inHoldTime = s.brake.inHoldTime then s
  else WheelEnd.list.foldl (moveWheelHold old) (InputId.list.foldl (moveInputHold old) s)

/-- R61: the release timer under a new `load_release_time` or `load_hold_alat`. -/
def takeRelease (s : State) : State :=
  let s := timeRelease s
  if s.leu.frozen && ranFor s.now s.brake.loadReleaseTime s.leu.release then releaseLoads s else s

/-- R121, R142: the tracking time of a channel has reached `track_time`. -/
def trackingFails (c : Channel) (s : State) : State := latchTracking c (raise (.pressureTracking c) s)

/-- R121, R142: whether the tracking time of a channel in REGULATE has reached `track_time`, be the time running
or paused. -/
def State.trackingDue (s : State) (c : Channel) : Bool :=
  (s.chan c).state == .regulate && decide (s.brake.trackTime ≤ (s.chan c).tracking s.now)

/-- R142: a tracking time compared with a new `track_time`. -/
def takeTrackTime (s : State) (c : Channel) : State := if s.trackingDue c then trackingFails c s else s

/-- Whether two brake sets differ in a parameter of a numbered range (R172). -/
def BrakeSet.differ (p q : BrakeSet) (lo hi : Nat) : Bool :=
  (List.range (hi + 1 - lo)).any fun k => p.value (lo + k) != q.value (lo + k)

/-- R158: a changed `roll_enable`. -/
def takeRollEnable (s : State) : State :=
  if s.brake.rollEnable then (if s.rsu.state = .disabled then rollEnable s else s)
  else if s.rsu.state = .disabled then s
  else rollDisable s

/-- What one brake commit may end or raise at once: a hold (R11), the roll function's ROLL_UNAVAILABLE (R158), a
tracking time (R142). -/
inductive CommitSubject where
  | hold (x : HoldSubject)
  | roll
  | track (c : Channel)
deriving DecidableEq, Repr

/-- What comes due where `old` was active: the deadlines that a new `in_hold_time` has brought to pass, a changed
`roll_enable`, and the tracking times that have reached a new `track_time`. -/
def State.commitDue (old : BrakeSet) (s : State) : List CommitSubject :=
  (if old.inHoldTime = s.brake.inHoldTime then [] else (holdSubjects.filter s.holdPassed).map .hold) ++
  (if old.rollEnable = s.brake.rollEnable then [] else [.roll]) ++
  (if old.trackTime = s.brake.trackTime then [] else (Channel.list.filter s.trackingDue).map .track)

/-- One of them taken, as the state then is: what came before it may have ended a hold or a tracking time. -/
def takeSubject (s : State) : CommitSubject → State
  | .hold x => expireHoldOf s x
  | .roll => takeRollEnable s
  | .track c => takeTrackTime s c

/-- R11, R142, R158: all that comes due, in a free order, since its raises and clears are of different pairs at one
moment (R162; log entry 8). -/
def takeDue (old : BrakeSet) (s : State) : State :=
  let q := s.ordered (s.commitDue old)
  q.1.foldl takeSubject q.2

/-- R177: each block takes up the values of the brake set that has become active; `old` was active. R162 leaves the
order of the raises and clears of one moment open. What comes due at the commit is taken in a free order; DESIGN
CHOICE, log entry 46: the order of the other steps is fixed, as they stand here, and so is that of the raises and
clears they bring. -/
def takeBrakeSet (old : BrakeSet) (s : State) : State :=
  let s := reweigh s
  let s := InputId.list.foldl (takeFilter old) s
  let s := moveHolds old s
  let s := WheelEnd.list.foldl judgeWheel s
  let s := recomputeFill s
  let s := takeRelease s
  let s := if old.agreeTol = s.brake.agreeTol then s else judgeAgreement s
  let s := if old.differ s.brake 62 65 then recomputeThresholds s else s
  let s := takeDue old s
  if old.differ s.brake 37 48 then computeAll Channel.list s else s

/-! ## The end of a brake commit (R176, R177) -/

/-- A brake commit ends with an outcome; the digest is kept. -/
def endCommit (o : CommitOutcome) (s : State) : State :=
  watch [.commitPending] (fun s =>
    { s with cfs := { s.cfs with
        commit := { s.cfs.commit with
          pending := false
          confirmed := false
          deadline := none
          outcome := o
          time := some s.now } } }) s

/-- R177: a confirmed commit is applied. -/
def applyCommit (s : State) : State :=
  let old := s.brake
  let s := { s with cfs := { s.cfs with brake := s.cfs.stagedBrake, brakeGood := true, unconfigured := false } }
  let s := markDirty .brakeConfig s
  let s := clear .unconfigured (endCommit .applied s)
  takeBrakeSet old s

/-- R177: the moment of application, judged at the confirmation, at each reference-speed publication and at
each publication of E. -/
def cfsJudge (s : State) : State :=
  if s.cfs.commit.pending && s.cfs.commit.confirmed && s.standstill && decide (s.dar.e.val = 0) then applyCommit s
  else s

/-- The end of an event that may have published E or the reference speed: the moment of application is
judged (R177), then the lift axle controller reacts (R77, R81). -/
def settle (s : State) : State := lacReact (cfsJudge s)

/-! ## New tyre-class values (R52, R174) -/

/-- R52: a changed `missing_timeout` moves a record's missing deadline, which expires at once where it has
passed. -/
def takeMissing (s : State) (y : Tyre) : State :=
  let r := s.tyre y
  match r.deadlineBase with
  | none => s
  | some b =>
    let d := after b s.tyreSet.missingTimeout
    let s := s.setTyre y { r with missingDeadline := some d }
    if reached s.now d then tyreMissing y s else s

/-- R52: a changed `learn_timeout` moves the deadline of an open learn likewise. -/
def takeLearn (s : State) : State :=
  match s.ttr.learn.slot with
  | none => s
  | some x =>
    let d := after x.opened s.tyreSet.learnTimeout
    let s := { s with ttr := { s.ttr with learn := { s.ttr.learn with slot := some { x with deadline := d } } } }
    if reached s.now d then failLearn s else s

/-- R174: the staged tyre set becomes active. -/
def applyTyre (s : State) : State :=
  let old := s.tyreSet
  let s := markDirty .tyreConfig { s with cfs := { s.cfs with tyre := s.cfs.stagedTyre } }
  let s := if old.missingTimeout = s.tyreSet.missingTimeout then s else Tyre.list.foldl takeMissing s
  if old.learnTimeout = s.tyreSet.learnTimeout then s else takeLearn s

end Sys2Proof.Machine
end

