-- ==== Sys2Proof/Machine/Resets.lean ====
section
/-! DEFINITION. The hard reset (R179) and the joint reset (R192) with every block's values after it. -/

namespace Sys2Proof.Machine

/-! ## The hard reset -/

/-- R24, R53, R70, R82, R100, R116, R143, R159, R170, R194: every block at its hard-reset values over the
store the reset found; the waiting commands, the pins and the index of the next free choice stay. -/
def hardBlocks (f : PerSection Stored) (s : State) : State :=
  let cfs := Cfs.hard f
  { clock := .hard
    icu := .hard cfs.brake s.icu.wheels
    ttr := .hard cfs.tyre (bindingsFrom f.bindings)
    leu := .hard (calFrom f.calibration)
    lac := .hard cfs.brake s.lac.pin
    dar := .reset cfs.brakeGood
    channels := .all (.reset 0 0)
    chc := .hard
    rsu := .reset cfs.brake ⟨1024, .degraded⟩ false
    flm := .hard
    cfs := cfs
    pif := .hard
    choice := s.choice
    edges := []
    pending := s.pending }

/-- R159, R179: the pairs raised at a hard reset. -/
def hardFaults (f : PerSection Stored) : List FaultPair :=
  storeFaults f ++ (if (brakeFrom f.brakeConfig).rollEnable then [.rollUnavailable] else [])

/-- R179: a hard reset. Its edges reach no queue, since every mask is clear. -/
def hardReset (found : PerSection Found) (s : State) : State :=
  let f := s.foundSections found
  { raiseAll (hardFaults f) (hardBlocks f s) with edges := [] }

/-! ## The joint reset -/

/-- R24 at a joint reset, for an input. -/
def InputRec.joint (t : Stamp) (r : InputRec) : InputRec :=
  { InputRec.hard t with filtered := r.filtered, last := r.last }

/-- R24 at a joint reset. -/
def Icu.joint (p : BrakeSet) (t : Stamp) (u : Icu) : Icu :=
  let q := u.inputs
  { inputs := ⟨q.pdML.joint t, q.pdMR.joint t, q.pdLL.joint t, q.pdLR.joint t, q.pcl.joint t, q.psr.joint t,
      q.pbl.joint t, q.pbr.joint t, q.pbx.joint t, q.alat.joint t, q.vsol.joint t⟩
    wheels := wheelsHard p t u.wheels
    supplyLow := false
    lowTimer := none
    clearTimer := none
    vsolMin := u.vsolMin }

/-- R54: a record at a joint reset. -/
def TyreRec.joint (p : TyreSet) (t : Stamp) (r : TyreRec) : TyreRec :=
  match r.state with
  | .awaiting | .live => { r with deadlineBase := some t, missingDeadline := some (after t p.missingTimeout) }
  | _ => r

/-- R54: the drag timers at a joint reset: from 0, and running where the wheel end is hot, since the
setpoints are 0. -/
def jointDrag (s : State) (w : WheelEnd) : State :=
  s.setWheelTyre w { s.wheelTyre w with drag := if s.hot w then .running s.now else .zero }

/-- R54. -/
def jointTyres (s : State) : State :=
  let r := s.ttr.tyres
  let p := s.tyreSet
  let t := s.now
  let s := { s with ttr := { s.ttr with
    rx := none
    gapDeadline := none
    tyres := ⟨r.t1LO.joint p t, r.t1LI.joint p t, r.t1RI.joint p t, r.t1RO.joint p t, r.t2LO.joint p t,
      r.t2LI.joint p t, r.t2RI.joint p t, r.t2RO.joint p t, r.t3LO.joint p t, r.t3LI.joint p t,
      r.t3RI.joint p t, r.t3RO.joint p t⟩ } }
  WheelEnd.list.foldl jointDrag (cancelLearn (fun _ => true) s)

/-- R70 at a joint reset: the sensor loads are 0, LOST, the other loads follow from the kept lift state, and the
capture table is empty, whether or not a session was open. -/
def jointLoads (s : State) : State :=
  let s := calAbort s
  let main : Marked := ⟨0, .lost⟩
  let lift : Marked := if s.lac.state = .down then ⟨0, .lost⟩ else ⟨0, .valid⟩
  { s with leu := { s.leu with
      sensor := .all ⟨0, .lost⟩
      liveMain := main
      liveLift := lift
      liveTotal := addLoads main lift
      appMain := main
      appLift := lift
      appTotal := addLoads main lift
      fill := ⟨1024, .degraded⟩
      frozen := false
      release := none
      captures := .all ⟨none, none⟩ } }

/-- R143 at a joint reset, for a coil: commanded off; its status and its last test are kept. LIFT is
commanded by the lift axle controller, whose state is kept. -/
def jointCoil (s : State) (k : Coil) : State :=
  match k with
  | .lift => s
  | .of _ _ => commandCoil k false s

/-- R116, R143: the channels at a joint reset. -/
def jointChannels (s : State) : State :=
  let t := s.now
  let r := s.channels
  let s := watch [.antilockAny, .standstill] (fun s =>
    { s with
      channels := ⟨.reset t r.ml.episodes, .reset t r.mr.episodes, .reset t r.ll.episodes, .reset t r.lr.episodes⟩
      chc := { s.chc with ref := ⟨0, .lost⟩, lastCandidate := none, slips := .all 0 } }) s
  Coil.list.foldl jointCoil s

/-- R194: the ports at a joint reset: the masks stay, and so does a pending response to JOINT_RESET, whose
command code is 4. -/
def Pif.joint (f : Pif) : Pif :=
  let q := fun (x : PortQueue) => ({ x with queue := [], lost := false } : PortQueue)
  let keep := fun (x : SpiLine) => ({ x with pending := x.pending.filter fun r => r.echo == 4 } : SpiLine)
  { queues := ⟨q f.queues.a, q f.queues.b, q f.queues.t⟩
    spi := ⟨keep f.spi.a, keep f.spi.b⟩
    uart := { f.uart with rx := none, held := [] }
    interval := 0
    nextSnapshot := none
    snapshot := none
    snapshotReady := false
    window := none }

/-- R180: the store at a joint reset. -/
def jointStore (s : State) : State :=
  let s := if s.cfs.commit.pending then endCommit .reset s else s
  { s with cfs := { s.cfs with stagedBrake := s.cfs.brake, stagedTyre := s.cfs.tyre } }

/-- R54, R76, R143, R159, R180: the pairs that the owners raise again at a joint reset. DEDUCED, log entry 37: a part
is unconfigured until its first brake commit is applied, so STORE_CHECK is raised for the sections that are still
BLANK after that commit. -/
def jointFaults (s : State) : List FaultPair :=
  (WheelEnd.list.filter fun w => (s.wheelTyre w).cond == .flat).map .tyreFlat ++
    (WheelEnd.list.filter fun w => (s.wheelTyre w).dragFlag).map .brakeDrag ++
    (if s.lac.timeoutFlag then [.liftTimeout] else []) ++
    (Coil.list.filter fun k => (s.coil k).status == .openCircuit).map .coilOpen ++
    (Coil.list.filter fun k => (s.coil k).status == .short).map .coilShort ++
    (if s.rsu.state = .unavailable then [.rollUnavailable] else []) ++
    (if s.cfs.unconfigured then [.unconfigured] else []) ++
    (Section.list.filter fun x => (s.sect x).state == .defaulted || ((s.sect x).state == .blank && !s.cfs.unconfigured)).map
      .storeCheck

/-- R134, R143: COIL latched again for a coil that is not OK. -/
def jointLatch (s : State) (k : Coil) : State :=
  match k with
  | .lift => s
  | .of c _ => if (s.coil k).status = .ok then s else latchCoil c s

/-- R192: the joint reset is taken. -/
def jointReset (s : State) : State :=
  let s := watch [.snapshotReady] (fun s => { s with pif := s.pif.joint }) s
  let s := emptyActive s
  let s := watch [.supplyLow] (fun s => { s with icu := s.icu.joint s.brake s.now }) s
  let s := jointStore s
  let s := watch [.braking, .electric, .passthrough] (fun s => { s with dar := .reset s.cfs.brakeGood }) s
  let s := jointChannels s
  let s := jointTyres s
  let s := jointLoads s
  let s := watch [.rollActive] (fun s => { s with rsu := .reset s.brake s.leu.fill s.penalty }) s
  let s := { s with lac := { s.lac with autoTimer := none } }
  let s := raiseAll (jointFaults s) s
  lacReact (Coil.list.foldl jointLatch s)

end Sys2Proof.Machine
end

