-- ==== Sys2Proof/Machine/Operands.lean ====
section
/-! DEFINITION. The bytes of frames and payloads (R181, R183, R185): numbers, frames, the frame check, and the
operand readers every command uses. -/

namespace Sys2Proof.Machine

/-! ## Numbers (R181, R187) -/

/-- A byte. -/
def byteOf (n : Nat) : Byte := BitVec.ofNat 8 n

/-- A number in 2 bytes, most significant first, in two's complement where it is negative. -/
def bytes2 (v : Int) : List Byte :=
  let w := (BitVec.ofInt 16 v).toNat
  [byteOf (w / 256), byteOf w]

/-- A number in 4 bytes. -/
def bytes4 (v : Int) : List Byte :=
  let w := (BitVec.ofInt 32 v).toNat
  [byteOf (w / 16777216), byteOf (w / 65536), byteOf (w / 256), byteOf w]

/-- A word of 16 bits as a signed number. -/
def signed16 (n : Nat) : Int := (BitVec.ofNat 16 n).toInt

/-! ## Command codes (R185) -/

/-- The commands of R185. -/
inductive Command where
  | demand | resumeElectric | clearPassthrough | jointReset | channelRestore | clearFirst | commitBrake | stage
  | confirmBrake | discardBrake | commitTyre | liftRequest | learn | unbind | tyreAckSet | tyreAckClear
  | clearInactive | calOpen | calCapture | calApply | calRevert | calClose | snapshotInterval | readRecord
  | identify | subscribeSet | subscribeClear | takeEvents | peekEvents | portReset
deriving DecidableEq, Repr

/-- The commands in code order, from code 1 (R185). -/
def commandList : List Command :=
  [.demand, .resumeElectric, .clearPassthrough, .jointReset, .channelRestore, .clearFirst, .commitBrake, .stage,
    .confirmBrake, .discardBrake, .commitTyre, .liftRequest, .learn, .unbind, .tyreAckSet, .tyreAckClear,
    .clearInactive, .calOpen, .calCapture, .calApply, .calRevert, .calClose, .snapshotInterval, .readRecord,
    .identify, .subscribeSet, .subscribeClear, .takeEvents, .peekEvents, .portReset]

/-- The code of a command (R185). -/
def Command.code : Command → Nat
  | .demand => 1
  | .resumeElectric => 2
  | .clearPassthrough => 3
  | .jointReset => 4
  | .channelRestore => 5
  | .clearFirst => 6
  | .commitBrake => 7
  | .stage => 8
  | .confirmBrake => 9
  | .discardBrake => 10
  | .commitTyre => 11
  | .liftRequest => 12
  | .learn => 13
  | .unbind => 14
  | .tyreAckSet => 15
  | .tyreAckClear => 16
  | .clearInactive => 17
  | .calOpen => 18
  | .calCapture => 19
  | .calApply => 20
  | .calRevert => 21
  | .calClose => 22
  | .snapshotInterval => 23
  | .readRecord => 24
  | .identify => 25
  | .subscribeSet => 26
  | .subscribeClear => 27
  | .takeEvents => 28
  | .peekEvents => 29
  | .portReset => 30

/-- The command a code names. -/
def commandOf (b : Byte) : Option Command := if b = 0#8 then none else commandList[b.toNat - 1]?

/-! ## Frames (R181, R183) -/

/-- A command frame that has passed the frame check. -/
structure Frame where
  command : Command
  guard : Option Guard
  payload : List Byte
deriving DecidableEq, Repr

/-- R181, R183: the content of a frame from its command byte on, without its CRC. DEDUCED, log entry 38: a guard flag
in a frame too short for a guard condition and a guard level fails the frame check. -/
def parseContent : List Byte → Option Frame
  | code :: flags :: rest =>
    match commandOf code with
    | none => none
    | some c =>
      if flags = 0#8 then some ⟨c, none, rest⟩
      else if flags = 1#8 then
        match rest with
        | cond :: level :: payload =>
          if cond = 0#8 then none
          else
            match Condition.list[cond.toNat - 1]? with
            | none => none
            | some k =>
              if level = 0#8 then some ⟨c, some ⟨k, false⟩, payload⟩
              else if level = 1#8 then some ⟨c, some ⟨k, true⟩, payload⟩
              else none
        | _ => none
      else none
  | _ => none

/-- R183: a frame, from its length byte on, checked; bytes after the one that the length byte makes the CRC
byte are ignored (R182). -/
def parseFrame : List Byte → Option Frame
  | len :: rest =>
    let n := len.toNat
    if n < 2 ∨ 52 < n then none
    else
      match rest[n]? with
      | none => none
      | some crc => if crc8 (len :: rest.take n) = crc then parseContent (rest.take n) else none
  | [] => none

/-- The bytes of a command frame as a master sends it, from its length byte on (R181). -/
def Frame.bytes (f : Frame) : List Byte :=
  let head := match f.guard with
    | none => [byteOf f.command.code, 0#8]
    | some g => [byteOf f.command.code, 1#8, byteOf (Condition.bit g.cond + 1), if g.level then 1#8 else 0#8]
  let body := head ++ f.payload
  let frame := byteOf body.length :: body
  frame ++ [crc8 frame]

/-- The bytes of a response frame (R181). -/
def Response.bytes (r : Response) : List Byte :=
  let body := match r.answer with
    | .done payload => [r.echo, 0#8, 0#8] ++ payload
    | .refused .notPermitted => [r.echo, 1#8, 1#8]
    | .refused .badFrame => [r.echo, 1#8, 2#8]
    | .refused .badArgument => [r.echo, 1#8, 3#8]
    | .refused .busy => [r.echo, 1#8, 4#8]
    | .refused .wrongState => [r.echo, 1#8, 5#8]
    | .refused .fieldBounds => [r.echo, 1#8, 6#8]
    | .guardFalse => [r.echo, 2#8, 0#8]
  let frame := byteOf body.length :: body
  frame ++ [crc8 frame]

/-! ## Operand readers (R185) -/

/-- The two masks of a subscription command, 20 bits each (R189). -/
def readMasks (payload : List Byte) : Option (BitVec 20 × BitVec 20) :=
  if payload.length = 8 then
    let r := bytesNat (payload.take 4)
    let f := bytesNat (payload.drop 4)
    if r < 2 ^ 20 ∧ f < 2 ^ 20 then some (BitVec.ofNat 20 r, BitVec.ofNat 20 f) else none
  else none

/-- A tyre position, 0 to 11 (R45, R48). -/
def readPosition : List Byte → Option Tyre
  | [b] => Tyre.list[b.toNat]?
  | _ => none

/-- A mask over the twelve tyre positions (R42). -/
def readTyreMask (payload : List Byte) : Option Nat :=
  if payload.length = 2 ∧ bytesNat payload < 4096 then some (bytesNat payload) else none

/-- A channel, 0 to 3 (R137). -/
def readChannel : List Byte → Option Channel
  | [b] => Channel.list[b.toNat]?
  | _ => none

/-- A 2-byte number (R83, R176, R191). -/
def read2 (payload : List Byte) : Option Nat := if payload.length = 2 then some (bytesNat payload) else none

/-- A set of bellows sensors as a mask of three bits (R65, R67). -/
def sensorSet (mask : Nat) : List Bellows :=
  (if mask.testBit 0 then [.pbl] else []) ++ (if mask.testBit 1 then [.pbr] else []) ++
    (if mask.testBit 2 then [.pbx] else [])

/-- The operands of CAL_CAPTURE (R65): the sensors (with the mirror flag, PBL and PBR among them), whether the
point is LADEN, the load figure and the mirror flag; absent where R65 or R185 refuse them with BAD_ARGUMENT. -/
structure Capture where
  sensors : List Bellows
  laden : Bool
  load : Int
  mirror : Bool
deriving DecidableEq, Repr

def readCapture : List Byte → Option Capture
  | [set, point, hi, lo, mirror] =>
    let load := bytesNat [hi, lo]
    let m := if mirror = 1#8 then set.toNat ||| 3 else set.toNat
    if set.toNat < 8 ∧ point.toNat ≤ 1 ∧ mirror.toNat ≤ 1 ∧ m ≠ 0 ∧ load ≤ 12000 ∧
        (m.testBit 2 = true → load ≤ 10000) then
      some ⟨sensorSet m, point = 1#8, load, mirror = 1#8⟩
    else none
  | _ => none

/-- The sensor set of CAL_REVERT (R67). -/
def readSensors : List Byte → Option (List Bellows)
  | [b] => if 0 < b.toNat ∧ b.toNat < 8 then some (sensorSet b.toNat) else none
  | _ => none

/-- The parameter a STAGE names (R172): a class with a number. -/
inductive Param where
  | brake (n : Nat)
  | tyre (n : Nat)
deriving DecidableEq, Repr

/-- The parameter and value of a STAGE payload; absent where it names no parameter (R173, R185). -/
def readStage : List Byte → Option (Param × Int)
  | [cls, number, hi, lo] =>
    let n := number.toNat
    let v := bytesNat [hi, lo]
    if cls = 0#8 ∧ n < 92 then some (.brake n, v)
    else if cls = 1#8 ∧ n < 77 then some (.tyre n, if tyreSigned n then signed16 v else v)
    else none
  | _ => none

end Sys2Proof.Machine
end

