-- ==== Sys2Proof/Machine/Readout.lean ====
section
/-! DEFINITION. READ_RECORD (R187, R188): the numbers of each record, in the order of its chapter's table, and
their packing into parts and lists. Log entry 15 lists the widths and forms that R187 leaves to be found. -/

namespace Sys2Proof.Machine

/-! ## Numbers of a record (R187) -/

/-- A number of 2 bytes. -/
def n2 (v : Int) : List Byte := bytes2 v
/-- A number of 4 bytes. -/
def n4 (v : Int) : List Byte := bytes4 v
/-- A number of 2 bytes that may be absent. -/
def o2 (v : Option Int) : List Byte := match v with | some x => bytes2 x | none => [0x80#8, 0#8]
/-- A time stamp. -/
def tm (t : Stamp) : List Byte := bytes4 t.toNat
/-- A time stamp that may be absent. -/
def otm (t : Option Stamp) : List Byte := match t with | some x => tm x | none => [0x80#8, 0#8, 0#8, 0#8]
/-- A flag. -/
def flag (b : Bool) : List Byte := bytes2 (if b then 1 else 0)
/-- An enumeration that may be absent, by the position of its value. -/
def oe {α : Type} (f : α → Nat) (x : Option α) : List Byte := o2 (x.map fun y => (f y : Int))
/-- A mark. -/
def mk (m : Mark) : List Byte := bytes2 (match m with | .valid => 0 | .degraded => 1 | .lost => 2)
/-- A set as a bit mask, its first member bit 0. -/
def setMask (l : List Bool) : List Byte := bytes2 (l.zipIdx.foldl (fun a q => if q.1 then a + 2 ^ q.2 else a) 0 : Nat)
/-- A value of 2 bytes with its mark, as two numbers. -/
def m2 (q : Marked) : List (List Byte) := [n2 q.val, mk q.mark]
/-- A value of 4 bytes with its mark. -/
def m4 (q : Marked) : List (List Byte) := [n4 q.val, mk q.mark]
/-- A timer that is stopped or running with its start time, as two numbers. -/
def timer (t : Option Stamp) : List (List Byte) := [flag t.isSome, otm t]

/-! ## Positions in the lists of values (R187) -/

def InState.pos : InState → Nat
  | .settling => 0 | .valid => 1 | .hold => 2 | .lost => 3
def Band.pos : Band → Nat
  | .inRange => 0 | .under => 1 | .over => 2
def InCause.pos : InCause → Nat
  | .none => 0 | .range => 1 | .openWire => 2
/-- The raised kind of INPUT by the position in its own list of R7, where `none` stands first (log entry 15). -/
def RaisedKind.pos : RaisedKind → Nat
  | .none => 0 | .inputRange => 1 | .inputOpen => 2
def SensorState.pos : SensorState → Nat
  | .unbound => 0 | .awaiting => 1 | .live => 2 | .missing => 3
def LearnOutcome.pos : LearnOutcome → Nat
  | .none => 0 | .bound => 1 | .failed => 2 | .cancelled => 3
/-- The tyre condition of WHEEL by the position in R1's list. DEDUCED, log entry 15: R187 says the chapter's list, and
R49's table, which the model takes as the order of judgement, has FLAT, LOW, UNKNOWN, OK. -/
def TyreCond.pos : TyreCond → Nat
  | .ok => 0 | .low => 1 | .flat => 2 | .unknown => 3
def CalResult.pos : CalResult → Nat
  | .none => 0 | .done => 1 | .bad => 2
def CalEnd.pos : CalEnd → Nat
  | .none => 0 | .closed => 1 | .aborted => 2
def LiftState.pos : LiftState → Nat
  | .down => 0 | .raising => 1 | .up => 2 | .lowering => 3
def LiftSource.pos : LiftSource → Nat
  | .a => 0 | .t => 1 | .button => 2 | .auto => 3
def LiftRequest.pos : LiftRequest → Nat
  | .raise => 0 | .lower => 1
def LiftOutcome.pos : LiftOutcome → Nat
  | .taken => 0 | .refused => 1 | .ignored => 2 | .noEffect => 3
def ButtonLevel.pos : ButtonLevel → Nat
  | .unknown => 0 | .released => 1 | .pressed => 2
def Freshness.pos : Freshness → Nat
  | .absent => 0 | .fresh => 1 | .stale => 2
def DemandMode.pos : DemandMode → Nat
  | .electric => 0 | .holding => 1 | .sensed => 2 | .passthrough => 3
def StopStage.pos : StopStage → Nat
  | .inhibit => 0 | .deadBand => 1 | .complete => 2
def CapSource.pos : CapSource → Nat
  | .psr => 0 | .pMax => 1
def ChState.pos : ChState → Nat
  | .passthrough => 0 | .inhibited => 1 | .safeHold => 2 | .converge => 3 | .antilock => 4 | .regulate => 5
def PassCause.pos : PassCause → Nat
  | .mode => 0 | .coil => 1 | .sensor => 2 | .tracking => 3
def CoilAction.pos : CoilAction → Nat
  | .apply => 0 | .hold => 1 | .vent => 2 | .release => 3
def Phase.pos : Phase → Nat
  | .idle => 0 | .dump => 1 | .hold => 2 | .reapply => 3
def ConvSide.pos : ConvSide → Nat
  | .below => 0 | .above => 1
def CoilStatus.pos : CoilStatus → Nat
  | .ok => 0 | .openCircuit => 1 | .short => 2
def TestKind.pos : TestKind → Nat
  | .patrol => 0 | .onCheck => 1
def testPos : TestResult → Nat
  | .pass => 0 | .openCircuit => 1 | .short => 2
def RollState.pos : RollState → Nat
  | .disabled => 0 | .unavailable => 1 | .watch => 2 | .probe => 3 | .intervene => 4 | .recover => 5
def IntCause.pos : IntCause → Nat
  | .wheelLift => 0 | .lateral => 1
def sidePos : Side → Nat
  | .left => 0 | .right => 1
def CommitOutcome.pos : CommitOutcome → Nat
  | .none => 0 | .applied => 1 | .discarded => 2 | .expired => 3 | .reset => 4
def SecState.pos : SecState → Nat
  | .good => 0 | .defaulted => 1 | .blank => 2
def WriteOutcome.pos : WriteOutcome → Nat
  | .none => 0 | .pass => 1 | .fail => 2

/-- The index of an entry of a list (R2, R3, R133, R178). -/
def posIn {α : Type} [DecidableEq α] (l : List α) (x : α) : Nat := l.findIdx fun y => decide (y = x)

def inputPos (i : InputId) : Nat := posIn InputId.list i
def wheelPos (w : WheelEnd) : Nat := posIn WheelEnd.list w
def channelPos (c : Channel) : Nat := posIn Channel.list c
def tyrePos (y : Tyre) : Nat := posIn Tyre.list y
def coilPos (k : Coil) : Nat := posIn Coil.list k
def sectionPos (x : Section) : Nat := posIn Section.list x

/-- The index of a pair's subject; absent for a kind without subject (R187). -/
def FaultPair.subject : FaultPair → Option Nat
  | .inputRange i | .inputOpen i => some (inputPos i)
  | .wheelSpeedLost w | .tyreFlat w | .brakeDrag w => some (wheelPos w)
  | .demandStale .a => some 0
  | .demandStale .b => some 1
  | .antilockUnavailable c | .pressureTracking c => some (channelPos c)
  | .coilOpen k | .coilShort k => some (coilPos k)
  | .storeCheck x => some (sectionPos x)
  | .supplyLow | .demandDisagree | .controlLineMismatch | .airSupplyLow | .liftTimeout | .rollUnavailable
  | .unconfigured => none

/-- A pair as kind and subject. -/
def pairNumbers (x : FaultPair) : List (List Byte) := [n2 x.kind, o2 (x.subject.map Int.ofNat)]

/-! ## The records -/

/-- A record as R188 sends it: in parts, or as other fields with a list of entries. -/
inductive Rec where
  | parts (numbers : List (List Byte))
  | list (fields : List Byte) (entries : List (List Byte))
deriving DecidableEq, Repr

/-- INPUT (R7). -/
def inputRecord (s : State) (i : InputId) : Rec :=
  let r := s.input i
  .list ([n2 r.state.pos, mk r.state.mark, n2 r.filtered, n4 r.last, n2 r.band.pos, n2 (s.brake.inFilter i),
      n2 r.cause.pos, n2 r.raised.pos, otm r.runStart, otm r.holdDeadline, tm r.lastSample].flatten)
    (r.window.map n2)

/-- The drag timer in ms (R1, R51). -/
def dragTime (t : Stamp) : DragTimer → Nat
  | .zero => 0
  | .running a => min 60000 (since t a)
  | .full => 60000

/-- WHEEL (R187). -/
def wheelRecord (s : State) (w : WheelEnd) : Rec :=
  let r := s.wheel w
  let y := s.wheelTyre w
  .parts (m4 (s.speed w) ++
    [n2 r.state.pos, n4 r.computed, n4 r.latestCount, otm r.lastEdge, n2 (s.chc.slips.get w), flag (s.lifted w),
      n2 y.cond.pos, n2 y.derate, n2 (channelPos (channelOf w)), n4 (dragTime s.now y.drag), flag y.dragFlag])

/-- TYRE (R32). -/
def tyreRecord (s : State) (y : Tyre) : Rec :=
  let r := s.tyre y
  .list ([n2 (tyrePos y), otm r.bound, n2 r.state.pos, o2 (r.profile.map Int.ofNat), o2 r.pressure, o2 r.temperature,
      o2 r.compensated, o2 (r.strength.map fun b => (b.toNat : Int)), otm r.lastTime, otm r.missingDeadline,
      otm r.deadlineBase, flag r.lowBattery, n2 r.level.rank, flag r.hot, flag r.leak,
      oe (fun a => Level.rank a.level) r.acked, oe (fun a => a.hot.toNat) r.acked,
      oe (fun a => a.leak.toNat) r.acked].flatten)
    (r.trend.map fun q => tm q.1 ++ n2 q.2)

/-- STRANGERS (R44). -/
def strangersRecord (s : State) : Rec :=
  .list [] (s.ttr.strangers.map fun e =>
    [tm e.id, n2 e.profile, n2 e.pressure, n2 e.strength.toNat, n2 e.sightings, tm e.lastSeen].flatten)

/-- The port of a learn slot, A or T (section 2.10). -/
def learnPort : Port → Nat
  | .t => 1
  | _ => 0

/-- LEARN (section 2.10). -/
def learnRecord (s : State) : Rec :=
  let l := s.ttr.learn
  .parts [oe (fun x => tyrePos x.position) l.slot, oe (fun x => learnPort x.port) l.slot,
    otm (l.slot.map fun x => x.deadline), n2 l.outcome.pos, oe tyrePos l.position, otm l.id, otm l.time]

/-- TELEGRAM_COUNTS (R27). -/
def countsRecord (s : State) : Rec :=
  .parts [n4 s.ttr.accepted, n4 s.ttr.checkRejected, n4 s.ttr.formatRejected, n4 s.ttr.strangerCount]

/-- PROFILE (section 2.2): the sixteen values of an active profile, as R172 carries them. -/
def profileRecord (s : State) (k : Nat) : Rec :=
  .parts ((List.range 16).map fun f => n2 (s.tyreSet.value (13 + 16 * k + f)))

/-- The release timer in ms (R61). -/
def releaseTime (s : State) : Nat :=
  match s.leu.release with | some t => min s.brake.loadReleaseTime (since s.now t) | none => 0

/-- LOAD (R187). -/
def loadRecord (s : State) : Rec :=
  let l := s.leu
  .parts (m2 l.sensor.pbl ++ m2 l.sensor.pbr ++ m2 l.sensor.pbx ++ m2 l.liveMain ++ m2 l.liveLift ++ m4 l.liveTotal ++
    m2 l.appMain ++ m2 l.appLift ++ m4 l.appTotal ++ m2 l.fill ++ [flag l.frozen, n2 (releaseTime s)])

/-- A capture as pressure and load. -/
def captureNumbers (x : Option (Int × Int)) : List (List Byte) := [o2 (x.map (·.1)), o2 (x.map (·.2))]

/-- CAL (R187). -/
def calRecord (s : State) : Rec :=
  let l := s.leu
  let one := fun b =>
    let r := l.cal.get b
    let c := l.captures.get b
    [n2 r.pEmpty, n2 r.loadEmpty, n2 r.pLaden, n2 r.loadLaden, flag r.confirmed] ++ captureNumbers c.empty ++
      captureNumbers c.laden
  .parts ([flag l.sessionOpen, n2 l.lastEnd.pos, otm l.lastEndTime, n2 l.results.pbl.pos, n2 l.results.pbr.pos,
    n2 l.results.pbx.pos] ++ one .pbl ++ one .pbr ++ one .pbx)

/-- The auto timer in ms (R71). -/
def autoTime (s : State) : Nat := match s.lac.autoTimer with | some t => min 10000 (since s.now t) | none => 0

/-- What a latch holds against a request (R72): the number of the failing condition in the list of R72, or the lift
state by its position in the list of R71 (R187; log entry 16). -/
def barNumber : Option LiftBar → List Byte
  | none => o2 none
  | some (.condition n) => n2 n
  | some (.state st) => n2 st.pos

/-- LIFT (R71). -/
def liftRecord (s : State) : Rec :=
  let l := s.lac
  .parts [n2 l.state.pos, flag l.auto, otm l.deadline, n2 (autoTime s), flag l.timeoutFlag,
    oe (fun x => x.source.pos) l.latch, oe (fun x => x.request.pos) l.latch, otm (l.latch.map fun x => x.time),
    oe (fun x => x.outcome.pos) l.latch, barNumber (l.latch.bind fun x => x.bar), n2 l.button.pos,
    flag (LiftState.coilOn l.state)]

/-- DEMAND (section 4.2). -/
def demandRecord (s : State) : Rec :=
  let d := s.dar
  let a := d.ctrl.a
  let b := d.ctrl.b
  .parts ([o2 a.demand, o2 b.demand, otm a.arrival, otm b.arrival, n2 a.fresh.pos, n2 b.fresh.pos, otm a.deadline,
      otm b.deadline, flag (!d.agree), o2 d.agreed, n2 d.lastAgreed, n2 d.mode.pos] ++ m2 d.e ++
    [otm d.holdDeadline, setMask [a.resumeVote, b.resumeVote]] ++ timer (d.resume.map fun w => w.start) ++
    [setMask [a.clearVote, b.clearVote], flag d.startWait] ++ timer d.mismatch ++ timer d.airLow)

/-- The tracking time as a record shows it (R117). -/
def trackShown (s : State) (c : Channel) : Nat := min s.brake.trackTime ((s.chan c).tracking s.now)

/-- CHANNEL (R101, R117). -/
def channelRecord (s : State) (c : Channel) : Rec :=
  let r := s.chan c
  let p := r.sp
  let k := fun f => s.coil (.of c f)
  .parts ([n2 p.value, mk p.mark, flag p.limited, n2 p.stop.pos, o2 (p.f.map fun q => q.val),
      (match p.f with | some q => mk q.mark | none => o2 none), o2 p.g, o2 p.p1, o2 p.d, o2 p.p2, o2 p.floor,
      o2 (p.cap.map (·.1)), oe (fun q => CapSource.pos q.2) p.cap, tm p.computedAt] ++
    [n2 r.state.pos, setMask [r.latched.coil, r.latched.sensor, r.latched.tracking], oe PassCause.pos r.cause] ++
    m2 (s.measured c) ++
    [n2 r.action.pos, flag (k .inlet).commanded, flag (k .exhaust).commanded, flag (k .backup).commanded,
      flag (k .inlet).readback, flag (k .exhaust).readback, flag (k .backup).readback, n2 r.phase.pos, o2 r.pLock,
      o2 r.ramp, otm r.phaseDeadline, o2 r.held, otm r.holdDeadline, oe ConvSide.pos r.side,
      n2 (trackShown s c), n2 r.slip, flag r.departPending, n4 r.episodes] ++ m4 s.chc.ref)

/-- COILS (section 6.9). -/
def coilsRecord (s : State) : Rec :=
  .list (n2 (coilPos s.chc.patrol)) (Coil.list.map fun k =>
    let r := s.coil k
    [flag r.commanded, flag r.readback, n2 r.status.pos, otm r.onCheck, oe (fun x => TestKind.pos x.kind) r.lastTest,
      otm (r.lastTest.map fun x => x.time), oe (fun x => testPos x.result) r.lastTest].flatten)

/-- ROLL (R144). -/
def rollRecord (s : State) : Rec :=
  let r := s.rsu
  .parts ([n2 r.state.pos, setMask [r.causes.alatLost, r.causes.refLost, r.causes.passthrough]] ++ m2 r.fillUsed ++
    [flag r.penalty, n2 r.aThr, n2 r.aProbe, oe sidePos r.inner, n2 r.innerFloor, n2 r.outerFloor, n2 r.floors.ml,
      n2 r.floors.mr, n2 r.floors.ll, n2 r.floors.lr, otm r.probeDeadline, otm r.lastProbeEnd] ++ timer r.quiet ++
    [otm r.nextStep, oe IntCause.pos r.cause])

/-- FAULT_FIRST (section 8.3); no numbers where it is empty (R188). -/
def firstRecord (s : State) : Rec :=
  match s.flm.first with
  | none => .parts []
  | some r =>
    let k := r.context
    let ch := fun (x : ChannelContext) => [n2 x.state.pos, n2 x.setpoint, mk x.mark]
    .parts (pairNumbers r.pair ++ [tm r.time, n2 r.severity.rank, n2 k.mode.pos] ++ m2 k.e ++ m4 k.ref ++
      m2 k.appMain ++ m2 k.appLift ++ ch k.channels.ml ++ ch k.channels.mr ++ ch k.channels.ll ++ ch k.channels.lr ++
      [n2 k.lift.pos, n2 k.roll.pos])

/-- FAULT_LIST (R167). -/
def faultListRecord (s : State) : Rec :=
  .list (flag s.flm.overrun) (s.flm.entries.map fun e =>
    (pairNumbers e.pair ++ [tm e.firstSeen, tm e.lastSeen, n2 e.count, flag e.active, n2 e.severity.rank]).flatten)

/-- ACTIVE_FAULTS (R162). -/
def activeRecord (s : State) : Rec :=
  .list [] (s.flm.active.map fun a => (pairNumbers a.pair ++ [tm a.time, n2 a.severity.rank]).flatten)

/-- CONFIG_ACTIVE (R172). -/
def configActiveRecord (s : State) (tyre : Bool) : Rec :=
  if tyre then .list [] (s.cfs.tyre.vals.toList.map n2) else .list [] (s.cfs.brake.vals.toList.map n2)

/-- CONFIG_STAGED (R172, section 9.3). -/
def configStagedRecord (s : State) (tyre : Bool) : Rec :=
  if tyre then .list [] (s.cfs.stagedTyre.vals.toList.map n2)
  else
    let k := s.cfs.commit
    .list ([flag k.pending, flag k.confirmed, o2 (k.digest.map fun d => (d.toNat : Int)), otm k.deadline,
      n2 k.outcome.pos, otm k.time].flatten) (s.cfs.stagedBrake.vals.toList.map n2)

/-- STORE (R187). -/
def storeRecord (s : State) : Rec :=
  .parts ((Section.list.flatMap fun x => [n2 (s.sect x).state.pos, flag (s.sect x).dirty]) ++
    [oe (fun w => sectionPos w.sect) s.cfs.write, n2 s.cfs.lastWrite.pos, otm s.cfs.lastWriteTime])

/-- SNAPSHOT (R187, R191); no numbers where it is empty. DEDUCED, log entry 15: setpoint and measured pressure go
channel by channel, level and sensor state tyre record by tyre record. -/
def snapshotRecord (s : State) : Rec :=
  match s.pif.snapshot with
  | none => .parts []
  | some x =>
    .parts ([tm x.time, n2 x.mode.pos] ++ m2 x.e ++ m4 x.ref ++ [n2 x.appMain, n2 x.appLift, n2 x.lift.pos,
        n2 x.roll.pos] ++
      (Channel.list.flatMap fun c => [n2 (x.setpoints.get c), n2 (x.measured.get c)]) ++
      (Tyre.list.flatMap fun y => [n2 (x.levels.get y).rank, n2 (x.sensors.get y).pos]) ++
      [flag x.warnLine, flag x.severeLine])

/-- IDENTITY (R188). -/
def identityRecord : Rec := .parts [n2 0x5C, n2 612, n2 3]

/-- The record a kind code and an index select; absent for an unknown kind or an index outside the kind's
range (R187, R188). -/
def record (s : State) (kind index : Nat) : Option Rec :=
  let only := fun (r : Rec) => if index = 0 then some r else none
  match kind with
  | 1 => InputId.list[index]?.map (inputRecord s)
  | 2 => WheelEnd.list[index]?.map (wheelRecord s)
  | 3 => Tyre.list[index]?.map (tyreRecord s)
  | 4 => only (strangersRecord s)
  | 5 => only (learnRecord s)
  | 6 => only (countsRecord s)
  | 7 => if index < 4 then some (profileRecord s index) else none
  | 8 => only (loadRecord s)
  | 9 => only (calRecord s)
  | 10 => only (liftRecord s)
  | 11 => only (demandRecord s)
  | 12 => Channel.list[index]?.map (channelRecord s)
  | 13 => only (coilsRecord s)
  | 14 => only (rollRecord s)
  | 15 => only (firstRecord s)
  | 16 => only (faultListRecord s)
  | 17 => only (activeRecord s)
  | 18 => if index < 2 then some (configActiveRecord s (index == 1)) else none
  | 19 => if index < 2 then some (configStagedRecord s (index == 1)) else none
  | 20 => only (storeRecord s)
  | 21 => only (snapshotRecord s)
  | 22 => only identityRecord
  | _ => none

/-! ## Packing (R188) -/

/-- Whole numbers packed into parts of at most 58 bytes; `part` is the part being filled. -/
def packParts (part : List Byte) : List (List Byte) → List (List Byte)
  | [] => if part.isEmpty then [] else [part]
  | x :: l => if part.length + x.length ≤ 58 then packParts (part ++ x) l else part :: packParts x l

/-- As many whole entries as fit in `room` bytes. -/
def fitEntries (room : Nat) : List (List Byte) → List Byte
  | [] => []
  | x :: l => if x.length ≤ room then x ++ fitEntries (room - x.length) l else []

/-- R188: the payload for a start number; absent where it lies beyond the last part or entry. -/
def Rec.payload (start : Nat) : Rec → Option (List Byte)
  | .parts l =>
    let ps := packParts [] l
    if ps.isEmpty ∧ start = 0 then some (n2 0)
    else ps[start]?.map fun x => n2 ps.length ++ x
  | .list fields es =>
    if start < es.length ∨ (start = 0 ∧ es.isEmpty) then
      let head := fields ++ n2 es.length
      some (head ++ fitEntries (60 - head.length) (es.drop start))
    else none

end Sys2Proof.Machine
end

