-- ==== Sys2Proof/Machine/Ports.lean ====
section
/-! DEFINITION. The ports (chapter 10): responses, the judgement of a taken command, and what each command of
R185 does once its frame, its port and its guard have passed. -/

namespace Sys2Proof.Machine

/-! ## Responses (R182) -/

/-- A response becomes the pending response of an SPI port, or joins those held on port T. -/
def respond (p : Port) (r : Response) (s : State) : State :=
  match p.controller with
  | some k => { s with pif := { s.pif with spi := s.pif.spi.set k { s.pif.spi.get k with pending := some r } } }
  | none => { s with pif := { s.pif with uart := { s.pif.uart with held := s.pif.uart.held ++ [r] } } }

/-- R182: a transaction begins: the pending response, or a null response, is clocked out. DEDUCED, log entry 42: of a
null response the output field holds the length byte alone. -/
def SpiLine.clockOut (l : SpiLine) : SpiLine :=
  { pending := none
    transaction := true
    out := match l.pending with | some r => r.bytes | none => [0#8] }

/-- R182: a transaction begins on a port. -/
def beginTransaction (k : Controller) (s : State) : State :=
  { s with pif := { s.pif with spi := s.pif.spi.set k (s.pif.spi.get k).clockOut } }

/-- R182: a transaction ends; one whose beginning was not a command of its own begins here (log entry 5). -/
def endTransaction (k : Controller) (s : State) : State :=
  let l := s.pif.spi.get k
  let l := if l.transaction then l else l.clockOut
  { s with pif := { s.pif with spi := s.pif.spi.set k { l with transaction := false } } }

/-- R182: port T is outside a frame. -/
def endReception (s : State) : State := { s with pif := { s.pif with uart := { s.pif.uart with rx := none } } }

/-- R182: whether port T holds 8 responses. -/
def State.tFull (s : State) : Bool := decide (8 ≤ s.pif.uart.held.length)

/-- R182: the frame carried so far has ended on its port. -/
def frameEnds (p : Port) (s : State) : State :=
  match p.controller with
  | some k => endTransaction k s
  | none => endReception s

/-- R182: whether a frame on a port is discarded without being taken. -/
def State.discards (s : State) (p : Port) : Bool := p.controller.isNone && s.tFull

/-- R182: the BAD_FRAME answer of port T to an abandoned frame, not queued while 8 are held. -/
def answerAbandoned (s : State) : State :=
  let s := endReception s
  if s.tFull then s else respond .t ⟨0#8, .refused .badFrame⟩ s

/-! ## Permissions (R184) -/

/-- R184: whether a command may be sent on a port. The right of a STAGE follows the class of the parameter it
names; one that names none passes. -/
def permitted (p : Port) (c : Command) (payload : List Byte) : Bool :=
  match c with
  | .demand | .resumeElectric | .clearPassthrough | .jointReset | .discardBrake => p != .t
  | .channelRestore | .clearFirst | .commitBrake => p == .a
  | .confirmBrake => p == .b
  | .stage =>
    match readStage payload with
    | some (.brake _, _) => p == .a
    | some (.tyre _, _) => p != .b
    | none => true
  | .commitTyre | .liftRequest | .learn | .unbind | .tyreAckSet | .tyreAckClear | .clearInactive => p != .b
  | .calOpen | .calCapture | .calApply | .calRevert | .calClose | .snapshotInterval => p == .t
  | .readRecord | .identify | .subscribeSet | .subscribeClear | .takeEvents | .peekEvents | .portReset => true

/-! ## What each command does -/

/-- What a command answers, and the state it leaves. -/
structure Result where
  answer : Answer
  state : State
deriving DecidableEq, Repr

/-- DONE with nothing in the payload. -/
def done (s : State) : Result := ⟨.done [], s⟩

/-- REFUSED: the command has no effect. -/
def refuse (r : Reason) (s : State) : Result := ⟨.refused r, s⟩

/-- A command without arguments: a payload is refused with BAD_ARGUMENT (R183). DEDUCED, log entry 40: so it is in a
state that refuses the command for another reason too. -/
def noPayload (payload : List Byte) (f : State → Result) (s : State) : Result :=
  if payload.isEmpty then f s else refuse .badArgument s

/-- The controller of port A or B; R184 keeps port T away from the commands that use it. -/
def controllerOf (p : Port) : Controller := p.controller.getD .a

/-- DEMAND (R83). -/
def doDemand (p : Port) (payload : List Byte) (s : State) : Result :=
  match read2 payload with
  | none => refuse .badArgument s
  | some v => done (settle (judgeAgreement (storeDemand (controllerOf p) (min v 1000 : Nat) s)))

/-- RESUME_ELECTRIC (R91). -/
def doResume (p : Port) (s : State) : Result :=
  if s.dar.mode = .sensed then
    let k := controllerOf p
    done (judgeResume (s.setCtrl k { s.ctrl k with resumeVote := true }))
  else refuse .wrongState s

/-- CLEAR_PASSTHROUGH (R95). -/
def doClearPassthrough (p : Port) (s : State) : Result :=
  if s.clearAllowed then done (settle (recordClear (controllerOf p) s)) else refuse .wrongState s

/-- JOINT_RESET (R192). -/
def doJointReset (p : Port) (s : State) : Result :=
  let k := controllerOf p
  match s.pif.window with
  | none => done { s with pif := { s.pif with window := some ⟨k, after s.now 100⟩ } }
  | some w => if w.port = k then done s else done (jointReset s)

/-- CHANNEL_RESTORE (R137). DEDUCED, log entry 40: a payload of another length is refused with
BAD_ARGUMENT whatever the state of the channel. -/
def doRestore (payload : List Byte) (s : State) : Result :=
  match readChannel payload with
  | none => refuse .badArgument s
  | some c =>
    let ok := fun f => (s.coil (.of c f)).status == .ok
    if (s.input (pdOf c)).state = .valid ∧ ok .inlet = true ∧ ok .exhaust = true ∧ ok .backup = true then
      if (s.chan c).latched.any then
        let s := s.setChan c { s.chan c with latched := ⟨false, false, false⟩ }
        done (judgeDeparture (clear (.pressureTracking c) s) c)
      else done s
    else refuse .wrongState s

/-- CLEAR_FIRST (R166). -/
def doClearFirst (s : State) : Result := done { s with flm := { s.flm with first := none } }

/-- COMMIT_BRAKE (R175). -/
def doCommitBrake (s : State) : Result :=
  if s.cfs.commit.pending then refuse .busy s
  else if s.cfs.stagedBrake.crossLimits then
    let d := s.cfs.stagedBrake.digest
    ⟨.done (bytes2 d.toNat), watch [.commitPending] (fun s =>
      { s with cfs := { s.cfs with commit := { s.cfs.commit with
          pending := true
          confirmed := false
          digest := some d
          deadline := some (after s.now 60000) } } }) s⟩
  else refuse .badArgument s

/-- R29: whether the profile that a tyre parameter belongs to fits its payload in set `p`. -/
def profileFits (p : TyreSet) (n : Nat) : Bool := n < 13 || (p.profile ((n - 13) / 16)).fits

/-- STAGE (R173). -/
def doStage (payload : List Byte) (s : State) : Result :=
  match readStage payload with
  | none => refuse .badArgument s
  | some (.brake n, v) =>
    if s.cfs.commit.pending then refuse .busy s
    else if brakeInRange n v then
      done { s with cfs := { s.cfs with stagedBrake := s.cfs.stagedBrake.write n v } }
    else refuse .badArgument s
  | some (.tyre n, v) =>
    if tyreInRange s.cfs.stagedTyre n v then
      let q := s.cfs.stagedTyre.write n v
      if profileFits q n then done { s with cfs := { s.cfs with stagedTyre := q } } else refuse .fieldBounds s
    else refuse .badArgument s

/-- CONFIRM_BRAKE (R176). DEDUCED, log entry 40: a payload not of 2 bytes is refused with BAD_ARGUMENT in every
state. -/
def doConfirm (payload : List Byte) (s : State) : Result :=
  match read2 payload with
  | none => refuse .badArgument s
  | some d =>
    if s.cfs.commit.pending then
      if s.cfs.commit.digest = some (BitVec.ofNat 16 d) then
        done (settle { s with cfs := { s.cfs with commit := { s.cfs.commit with confirmed := true } } })
      else refuse .badArgument s
    else refuse .wrongState s

/-- DISCARD_BRAKE (R176). -/
def doDiscard (s : State) : Result :=
  let s := if s.cfs.commit.pending then endCommit .discarded s else s
  done { s with cfs := { s.cfs with stagedBrake := s.cfs.brake } }

/-- COMMIT_TYRE (R174). -/
def doCommitTyre (s : State) : Result :=
  if s.cfs.stagedTyre.lowWarnFrac ≤ s.cfs.stagedTyre.lowCritFrac then refuse .badArgument s
  else done (lacReact (applyTyre s))

/-- The source of a port's lift requests (R71). -/
def liftSource : Port → LiftSource
  | .a | .b => .a
  | .t => .t

/-- LIFT_REQUEST (R79). -/
def doLift (p : Port) (payload : List Byte) (s : State) : Result :=
  match payload with
  | [b] =>
    if b = 0#8 then
      let s' := requestRaise (liftSource p) .refused s
      if (raiseBar s).isNone then done (lacReact s') else refuse .wrongState s'
    else if b = 1#8 then done (lacReact (requestLower (liftSource p) s))
    else if b = 2#8 then done (lacReact { s with lac := { s.lac with auto := true } })
    else if b = 3#8 then done (lacReact { s with lac := { s.lac with auto := false, autoTimer := none } })
    else refuse .badArgument s
  | _ => refuse .badArgument s

/-- LEARN (R45). DEDUCED, log entry 40: a position above 11 is refused with BAD_ARGUMENT while the slot is occupied
too. -/
def doLearn (p : Port) (payload : List Byte) (s : State) : Result :=
  match readPosition payload with
  | none => refuse .badArgument s
  | some y =>
    if s.ttr.learn.slot.isSome then refuse .busy s
    else
      done (watch [.learnOpen] (fun s =>
        { s with ttr := { s.ttr with learn := { s.ttr.learn with
            slot := some ⟨y, p, s.now, after s.now s.tyreSet.learnTimeout⟩ } } }) s)

/-- UNBIND (R48). -/
def doUnbind (payload : List Byte) (s : State) : Result :=
  match readPosition payload with
  | none => refuse .badArgument s
  | some y => done (lacReact (unbindTyre y s))

/-- TYRE_ACK_SET (R42). -/
def doAckSet (payload : List Byte) (s : State) : Result :=
  match readTyreMask payload with
  | none => refuse .badArgument s
  | some m => done (ackTyres m TyreRec.ackNow s)

/-- TYRE_ACK_CLEAR (R42). -/
def doAckClear (payload : List Byte) (s : State) : Result :=
  match readTyreMask payload with
  | none => refuse .badArgument s
  | some m => done (ackTyres m (fun r => { r with acked := none }) s)

/-- CAL_OPEN (R64). -/
def doCalOpen (s : State) : Result :=
  if s.leu.sessionOpen then refuse .busy s
  else if s.standstill = true ∧ s.dar.e.val = 0 ∧ s.lac.state = .down then
    done (watch [.calOpen] (fun s =>
      { s with leu := { s.leu with
          sessionOpen := true
          captures := .all ⟨none, none⟩
          results := .all .none } }) s)
  else refuse .wrongState s

/-- R65: the source input of a sensor. -/
def captureSource (mirror : Bool) : Bellows → Bellows
  | .pbr => if mirror then .pbl else .pbr
  | b => b

/-- R65: one capture recorded. -/
def recordCapture (q : Capture) (s : State) (b : Bellows) : State :=
  let x := ((s.reading (bellowsInput (captureSource q.mirror b))).val, q.load)
  let c := s.leu.captures.get b
  { s with leu := { s.leu with
      captures := s.leu.captures.set b (if q.laden then { c with laden := some x } else { c with empty := some x }) } }

/-- CAL_CAPTURE (R65). -/
def doCapture (payload : List Byte) (s : State) : Result :=
  match readCapture payload with
  | none => refuse .badArgument s
  | some q =>
    if s.leu.sessionOpen &&
        q.sensors.all fun b => (s.reading (bellowsInput (captureSource q.mirror b))).mark == .valid then
      done (q.sensors.foldl (recordCapture q) s)
    else refuse .wrongState s

/-- Whether a sensor has a capture. -/
def Captures.any (c : Captures) : Bool := c.empty.isSome || c.laden.isSome

/-- R66: the candidate record of a sensor. -/
def candidateOf (r : CalRec) (c : Captures) : CalRec :=
  let e := c.empty.getD (r.pEmpty, r.loadEmpty)
  let l := c.laden.getD (r.pLaden, r.loadLaden)
  ⟨e.1, e.2, l.1, l.2, true⟩

/-- R66: a sensor's candidate judged. -/
def judgeCandidate (s : State) (b : Bellows) : State :=
  let c := s.leu.captures.get b
  if c.any then
    let q := candidateOf (s.leu.cal.get b) c
    { s with leu := { s.leu with
        cal := if q.acceptable then s.leu.cal.set b q else s.leu.cal
        results := s.leu.results.set b (if q.acceptable then .done else .bad)
        captures := s.leu.captures.set b ⟨none, none⟩ } }
  else s

/-- R66: whether a sensor has a candidate that is accepted. -/
def State.accepts (s : State) (b : Bellows) : Bool :=
  (s.leu.captures.get b).any && (candidateOf (s.leu.cal.get b) (s.leu.captures.get b)).acceptable

/-- R57, R66, R67: what follows a change of calibration records: CALIBRATION is dirty, the sensor loads are
recomputed, and a change of the calibration-defaulted indication reaches every channel (R103). -/
def calChanged (before : Bool) (s : State) : State :=
  let s := recomputeSensors Bellows.list (markDirty .calibration s)
  if s.calDefaulted = before then s else computeAll Channel.list s

/-- The three results as bytes (R185). -/
def resultBytes (s : State) : List Byte :=
  let b := fun (x : CalResult) => byteOf x.pos
  [b s.leu.results.pbl, b s.leu.results.pbr, b s.leu.results.pbx]

/-- CAL_APPLY (R66). -/
def doCalApply (s : State) : Result :=
  if s.leu.sessionOpen then
    let before := s.calDefaulted
    let changed := Bellows.list.any s.accepts
    let s := Bellows.list.foldl judgeCandidate s
    let s := if changed then lacReact (calChanged before s) else s
    ⟨.done (resultBytes s), s⟩
  else refuse .wrongState s

/-- R67: one sensor reverted. -/
def revertSensor (s : State) (b : Bellows) : State :=
  { s with leu := { s.leu with
      cal := s.leu.cal.set b (CalRec.factory true b)
      results := s.leu.results.set b .done
      captures := s.leu.captures.set b ⟨none, none⟩ } }

/-- CAL_REVERT (R67). DEDUCED, log entry 28: an empty set is refused with BAD_ARGUMENT whether or not a session is
open. -/
def doRevert (payload : List Byte) (s : State) : Result :=
  match readSensors payload with
  | none => refuse .badArgument s
  | some l =>
    if s.leu.sessionOpen then done (lacReact (calChanged s.calDefaulted (l.foldl revertSensor s)))
    else refuse .wrongState s

/-- CAL_CLOSE (R68). -/
def doCalClose (s : State) : Result := done (if s.leu.sessionOpen then endSession .closed s else s)

/-- R191: the interval in use for a value of SNAPSHOT_INTERVAL. -/
def snapshotIntervalOf (v : Nat) : Nat := if 30000 < v then 30000 else v / 100 * 100

/-- SNAPSHOT_INTERVAL (R191). -/
def doSnapshotInterval (payload : List Byte) (s : State) : Result :=
  match read2 payload with
  | none => refuse .badArgument s
  | some v =>
    let n := snapshotIntervalOf v
    ⟨.done (bytes2 n), { s with pif := { s.pif with
      interval := n
      nextSnapshot := if n = 0 then none else some (after s.now n) } }⟩

/-- READ_RECORD (R187, R188, R191). -/
def doRead (p : Port) (payload : List Byte) (s : State) : Result :=
  match payload with
  | [kind, index, hi, lo] =>
    match (record s kind.toNat index.toNat).bind (Rec.payload (bytesNat [hi, lo])) with
    | none => refuse .badArgument s
    | some bytes =>
      ⟨.done bytes,
        if p = .t ∧ kind = 21#8 then
          watch [.snapshotReady] (fun s => { s with pif := { s.pif with snapshotReady := false } }) s
        else s⟩
  | _ => refuse .badArgument s

/-- IDENTIFY (R188). -/
def doIdentify (s : State) : Result := ⟨.done [0x5C#8, 0x02#8, 0x64#8, 3#8], s⟩

/-- The two masks of a port as bytes (R185). -/
def maskBytes (q : PortQueue) : List Byte := bytes4 q.riseMask.toNat ++ bytes4 q.fallMask.toNat

/-- SUBSCRIBE_SET and SUBSCRIBE_CLEAR (R189): the port's masks changed by `f`. -/
def doSubscribe (f : BitVec 20 → BitVec 20 → BitVec 20) (p : Port) (payload : List Byte) (s : State) : Result :=
  match readMasks payload with
  | none => refuse .badArgument s
  | some m =>
    let q := s.pif.queues.get p
    let q := { q with riseMask := f q.riseMask m.1, fallMask := f q.fallMask m.2 }
    ⟨.done (maskBytes q), { s with pif := { s.pif with queues := s.pif.queues.set p q } }⟩

/-- A queue entry in a response (R185). -/
def entryBytes (e : QueueEntry) : List Byte :=
  [byteOf (Condition.bit e.edge.cond + 1), if e.edge.rise then 0#8 else 1#8] ++ tm e.time ++ [byteOf e.repeats]

/-- R190: the entries returned. -/
def eventsReturned (n : Nat) (q : PortQueue) : List QueueEntry := q.queue.take (min n 8)

/-- The response of TAKE_EVENTS and PEEK_EVENTS (R185). -/
def eventBytes (n : Nat) (q : PortQueue) : List Byte :=
  let l := eventsReturned n q
  [if q.lost then 1#8 else 0#8, byteOf l.length] ++ l.flatMap entryBytes

/-- TAKE_EVENTS and PEEK_EVENTS (R190): `leave` is what stays of the queue. -/
def doEvents (leave : Nat → PortQueue → PortQueue) (p : Port) (payload : List Byte) (s : State) : Result :=
  match payload with
  | [b] =>
    if 16 < b.toNat then refuse .badArgument s
    else
      let q := s.pif.queues.get p
      ⟨.done (eventBytes b.toNat q),
        { s with pif := { s.pif with queues := s.pif.queues.set p (leave b.toNat q) } }⟩
  | _ => refuse .badArgument s

/-- R190: what TAKE_EVENTS leaves. -/
def takeFrom (n : Nat) (q : PortQueue) : PortQueue := { q with queue := q.queue.drop (min n 8), lost := false }

/-- R193: the port's own interface state. -/
def resetPort (p : Port) (s : State) : State :=
  let f := s.pif
  let f := { f with queues := f.queues.set p .hard }
  let f := match p.controller with
    | some k =>
      { f with
        spi := f.spi.set k { f.spi.get k with pending := none }
        window := f.window.filter fun w => w.port != k }
    | none => { f with uart := { f.uart with rx := none, held := [] } }
  { s with pif := f }

/-- PORT_RESET (R193). -/
def doPortReset (p : Port) (s : State) : Result :=
  let s := resetPort p s
  match p.controller with
  | some k => done (settle (demandOnPortReset k s))
  | none => done (cancelLearn (fun x => x.port == .t) (calAbort s))

/-- R183 step 4: what a command does, by its kind. -/
def perform (p : Port) (c : Command) (payload : List Byte) (s : State) : Result :=
  match c with
  | .demand => doDemand p payload s
  | .resumeElectric => noPayload payload (doResume p) s
  | .clearPassthrough => noPayload payload (doClearPassthrough p) s
  | .jointReset => noPayload payload (doJointReset p) s
  | .channelRestore => doRestore payload s
  | .clearFirst => noPayload payload doClearFirst s
  | .commitBrake => noPayload payload doCommitBrake s
  | .stage => doStage payload s
  | .confirmBrake => doConfirm payload s
  | .discardBrake => noPayload payload doDiscard s
  | .commitTyre => noPayload payload doCommitTyre s
  | .liftRequest => doLift p payload s
  | .learn => doLearn p payload s
  | .unbind => doUnbind payload s
  | .tyreAckSet => doAckSet payload s
  | .tyreAckClear => doAckClear payload s
  | .clearInactive => noPayload payload (fun s => done (clearInactiveEntries s)) s
  | .calOpen => noPayload payload doCalOpen s
  | .calCapture => doCapture payload s
  | .calApply => noPayload payload doCalApply s
  | .calRevert => doRevert payload s
  | .calClose => noPayload payload doCalClose s
  | .snapshotInterval => doSnapshotInterval payload s
  | .readRecord => doRead p payload s
  | .identify => noPayload payload doIdentify s
  | .subscribeSet => doSubscribe (fun a b => a ||| b) p payload s
  | .subscribeClear => doSubscribe (fun a b => a &&& ~~~b) p payload s
  | .takeEvents => doEvents takeFrom p payload s
  | .peekEvents => doEvents (fun _ q => q) p payload s
  | .portReset => noPayload payload (doPortReset p) s

/-! ## A taken command (R182, R183) -/

/-- R183 steps 2 to 4: permission, guard and the command itself. -/
def judgeCommand (p : Port) (c : Command) (g : Option Guard) (payload : List Byte) (s : State) : Result :=
  if permitted p c payload then
    match g with
    | some x => if holds x.cond s = x.level then perform p c payload s else ⟨.guardFalse, s⟩
    | none => perform p c payload s
  else refuse .notPermitted s

/-- R182, R183: a command frame whose frame check has passed arrives on a port, is taken unless port T
discards it, and is answered. -/
def takeCommand (p : Port) (c : Command) (g : Option Guard) (payload : List Byte) (s : State) : State :=
  let s := frameEnds p s
  if s.discards p then s
  else
    let r := judgeCommand p c g payload s
    respond p ⟨byteOf c.code, r.answer⟩ r.state

/-- R181: the command echo of a frame that fails the frame check: the byte at the command's place, or 0 where no
code could be read, because the frame is shorter or because its length byte of 0 leaves no command byte. -/
def badEcho (bytes : List Byte) : Byte := if bytes.headD 0#8 = 0#8 then 0#8 else bytes.getD 1 0#8

/-- R183 step 1: a taken frame, from its length byte on, that may fail the frame check. -/
def takeFrame (p : Port) (bytes : List Byte) (s : State) : State :=
  match parseFrame bytes with
  | some f => takeCommand p f.command f.guard f.payload s
  | none =>
    let s := frameEnds p s
    if s.discards p then s else respond p ⟨badEcho bytes, .refused .badFrame⟩ s

/-- R182: a byte arrives on port T. -/
def portByte (b : Byte) (s : State) : State :=
  match s.pif.uart.rx with
  | none =>
    if b = 0xA5#8 then
      { s with pif := { s.pif with uart := { s.pif.uart with rx := some [], lastByte := s.now } } }
    else s
  | some f =>
    let f := f ++ [b]
    if (f.headD 0#8).toNat + 2 ≤ f.length then takeFrame .t f s
    else { s with pif := { s.pif with uart := { s.pif.uart with rx := some f, lastByte := s.now } } }

/-- R182: whether more than 10 ms have passed since the last byte of the frame in reception, as a difference of time
counter readings (R3, time counter). -/
def State.frameGap (s : State) : Bool :=
  s.pif.uart.rx.isSome && decide (10 < since s.now s.pif.uart.lastByte)

/-- R182: port T has sent its oldest held response. -/
def sendHeld (s : State) : State :=
  match s.pif.uart.held with
  | [] => s
  | r :: l => { s with pif := { s.pif with uart := { s.pif.uart with held := l, out := r.bytes } } }

/-- R191: the snapshot record as the owners last published it. -/
def composeSnapshot (s : State) : Snapshot :=
  let m := fun c => (s.measured c).val
  let p := fun c => (s.chan c).sp.value
  let l := fun y => (s.tyre y).level
  let st := fun y => (s.tyre y).state
  { time := s.now
    mode := s.dar.mode
    e := s.dar.e
    ref := s.chc.ref
    appMain := s.leu.appMain.val
    appLift := s.leu.appLift.val
    lift := s.lac.state
    roll := s.rsu.state
    setpoints := ⟨p .ml, p .mr, p .ll, p .lr⟩
    measured := ⟨m .ml, m .mr, m .ll, m .lr⟩
    levels := ⟨l .t1LO, l .t1LI, l .t1RI, l .t1RO, l .t2LO, l .t2LI, l .t2RI, l .t2RO, l .t3LO, l .t3LI, l .t3RI,
      l .t3RO⟩
    sensors := ⟨st .t1LO, st .t1LI, st .t1RI, st .t1RO, st .t2LO, st .t2LI, st .t2RI, st .t2RO, st .t3LO, st .t3LI,
      st .t3RI, st .t3RO⟩
    warnLine := s.flm.warnLine
    severeLine := s.flm.severeLine }

/-- R191: the snapshot timer has expired and runs on. -/
def snapshotExpires (s : State) : State :=
  watch [.snapshotReady] (fun s => { s with pif := { s.pif with
    snapshot := some (composeSnapshot s)
    snapshotReady := true
    nextSnapshot := s.pif.nextSnapshot.map fun d => after d s.pif.interval } }) s

end Sys2Proof.Machine
end

