-- ==== Sys2Proof/Machine/LineEvents.lean ====
section
/-! DEFINITION. The meanings of the reset input and of the port-line events (R179, R182, R183). -/

namespace Sys2Proof.Machine

/-- HARD_RESET (R179). -/
def execHardReset (found : PerSection Found) (s : State) : Host.Outcome State Fault Refusal :=
  .next (hardReset found s)

/-- SPI_TRANSACTION_BEGIN (R182). -/
def execSpiTransactionBegin (dt : Delay) (k : Controller) (s : State) : Host.Outcome State Fault Refusal :=
  event dt (beginTransaction k) s

/-- NULL_FRAME (R182): the transaction ends and no command is taken. -/
def execNullFrame (dt : Delay) (k : Controller) (s : State) : Host.Outcome State Fault Refusal :=
  event dt (endTransaction k) s

/-- BAD_FRAME (R183): a taken frame that fails the frame check. Bytes that pass it, and the null frame of an
SPI port, are other rows of the table and have no effect here (log entry 3). -/
def execBadFrame (dt : Delay) (p : Port) (bytes : List Byte) (s : State) : Host.Outcome State Fault Refusal :=
  event dt (fun s =>
    if (parseFrame bytes).isSome || (p != .t && bytes.head? == some 0#8) then s else takeFrame p bytes s) s

/-- PORT_T_FRAME_GAP (R182). -/
def execPortTFrameGap (dt : Delay) (s : State) : Host.Outcome State Fault Refusal :=
  event dt (fun s => if s.frameGap then answerAbandoned s else s) s

/-- PORT_T_FRAMING_ERROR (R182): within a frame it abandons the frame; outside one the byte is discarded. -/
def execPortTFramingError (dt : Delay) (s : State) : Host.Outcome State Fault Refusal :=
  event dt (fun s => if s.pif.uart.rx.isSome then answerAbandoned s else s) s

/-- PORT_T_FRAME_DROPPED (R182). -/
def execPortTFrameDropped (dt : Delay) (s : State) : Host.Outcome State Fault Refusal :=
  event dt (fun s => if s.tFull then endReception s else s) s

/-- PORT_T_RESPONSE_SENT (R182). -/
def execPortTResponseSent (dt : Delay) (s : State) : Host.Outcome State Fault Refusal :=
  event dt sendHeld s

/-- PORT_T_BYTE (R182). -/
def execPortTByte (dt : Delay) (byte : Byte) (s : State) : Host.Outcome State Fault Refusal :=
  event dt (portByte byte) s

/-- SNAPSHOT_TIMER_EXPIRY (R191). -/
def execSnapshotTimerExpiry (dt : Delay) (s : State) : Host.Outcome State Fault Refusal :=
  event dt (fun s => if dueAt s.now s.pif.nextSnapshot then snapshotExpires s else s) s

/-- JOINT_RESET_WINDOW_CLOSE (R192). -/
def execJointResetWindowClose (dt : Delay) (s : State) : Host.Outcome State Fault Refusal :=
  event dt (fun s =>
    if dueAt s.now (s.pif.window.map fun w => w.closes) then { s with pif := { s.pif with window := none } } else s) s

end Sys2Proof.Machine
end

