-- ==== Sys2Proof/Machine/Commands.lean ====
section
/-! DEFINITION. The meanings of the thirty commands (R185): a command frame that has passed the frame check is taken
on its port and answered (R182 to R184). -/

namespace Sys2Proof.Machine

/-- DEMAND (R83). -/
def execDemand (dt : Delay) (p : Port) (g : Option Guard) (payload : List Byte) (s : State) :
    Host.Outcome State Fault Refusal :=
  event dt (takeCommand p .demand g payload) s

/-- RESUME_ELECTRIC (R91). -/
def execResumeElectric (dt : Delay) (p : Port) (g : Option Guard) (payload : List Byte) (s : State) :
    Host.Outcome State Fault Refusal :=
  event dt (takeCommand p .resumeElectric g payload) s

/-- CLEAR_PASSTHROUGH (R95). -/
def execClearPassthrough (dt : Delay) (p : Port) (g : Option Guard) (payload : List Byte) (s : State) :
    Host.Outcome State Fault Refusal :=
  event dt (takeCommand p .clearPassthrough g payload) s

/-- JOINT_RESET (R192). -/
def execJointReset (dt : Delay) (p : Port) (g : Option Guard) (payload : List Byte) (s : State) :
    Host.Outcome State Fault Refusal :=
  event dt (takeCommand p .jointReset g payload) s

/-- CHANNEL_RESTORE (R137). -/
def execChannelRestore (dt : Delay) (p : Port) (g : Option Guard) (payload : List Byte) (s : State) :
    Host.Outcome State Fault Refusal :=
  event dt (takeCommand p .channelRestore g payload) s

/-- CLEAR_FIRST (R166). -/
def execClearFirst (dt : Delay) (p : Port) (g : Option Guard) (payload : List Byte) (s : State) :
    Host.Outcome State Fault Refusal :=
  event dt (takeCommand p .clearFirst g payload) s

/-- COMMIT_BRAKE (R175). -/
def execCommitBrake (dt : Delay) (p : Port) (g : Option Guard) (payload : List Byte) (s : State) :
    Host.Outcome State Fault Refusal :=
  event dt (takeCommand p .commitBrake g payload) s

/-- STAGE (R173). -/
def execStage (dt : Delay) (p : Port) (g : Option Guard) (payload : List Byte) (s : State) :
    Host.Outcome State Fault Refusal :=
  event dt (takeCommand p .stage g payload) s

/-- CONFIRM_BRAKE (R176). -/
def execConfirmBrake (dt : Delay) (p : Port) (g : Option Guard) (payload : List Byte) (s : State) :
    Host.Outcome State Fault Refusal :=
  event dt (takeCommand p .confirmBrake g payload) s

/-- DISCARD_BRAKE (R176). -/
def execDiscardBrake (dt : Delay) (p : Port) (g : Option Guard) (payload : List Byte) (s : State) :
    Host.Outcome State Fault Refusal :=
  event dt (takeCommand p .discardBrake g payload) s

/-- COMMIT_TYRE (R174). -/
def execCommitTyre (dt : Delay) (p : Port) (g : Option Guard) (payload : List Byte) (s : State) :
    Host.Outcome State Fault Refusal :=
  event dt (takeCommand p .commitTyre g payload) s

/-- LIFT_REQUEST (R79). -/
def execLiftRequest (dt : Delay) (p : Port) (g : Option Guard) (payload : List Byte) (s : State) :
    Host.Outcome State Fault Refusal :=
  event dt (takeCommand p .liftRequest g payload) s

/-- LEARN (R45). -/
def execLearn (dt : Delay) (p : Port) (g : Option Guard) (payload : List Byte) (s : State) :
    Host.Outcome State Fault Refusal :=
  event dt (takeCommand p .learn g payload) s

/-- UNBIND (R48). -/
def execUnbind (dt : Delay) (p : Port) (g : Option Guard) (payload : List Byte) (s : State) :
    Host.Outcome State Fault Refusal :=
  event dt (takeCommand p .unbind g payload) s

/-- TYRE_ACK_SET (R42). -/
def execTyreAckSet (dt : Delay) (p : Port) (g : Option Guard) (payload : List Byte) (s : State) :
    Host.Outcome State Fault Refusal :=
  event dt (takeCommand p .tyreAckSet g payload) s

/-- TYRE_ACK_CLEAR (R42). -/
def execTyreAckClear (dt : Delay) (p : Port) (g : Option Guard) (payload : List Byte) (s : State) :
    Host.Outcome State Fault Refusal :=
  event dt (takeCommand p .tyreAckClear g payload) s

/-- CLEAR_INACTIVE (R168). -/
def execClearInactive (dt : Delay) (p : Port) (g : Option Guard) (payload : List Byte) (s : State) :
    Host.Outcome State Fault Refusal :=
  event dt (takeCommand p .clearInactive g payload) s

/-- CAL_OPEN (R64). -/
def execCalOpen (dt : Delay) (p : Port) (g : Option Guard) (payload : List Byte) (s : State) :
    Host.Outcome State Fault Refusal :=
  event dt (takeCommand p .calOpen g payload) s

/-- CAL_CAPTURE (R65). -/
def execCalCapture (dt : Delay) (p : Port) (g : Option Guard) (payload : List Byte) (s : State) :
    Host.Outcome State Fault Refusal :=
  event dt (takeCommand p .calCapture g payload) s

/-- CAL_APPLY (R66). -/
def execCalApply (dt : Delay) (p : Port) (g : Option Guard) (payload : List Byte) (s : State) :
    Host.Outcome State Fault Refusal :=
  event dt (takeCommand p .calApply g payload) s

/-- CAL_REVERT (R67). -/
def execCalRevert (dt : Delay) (p : Port) (g : Option Guard) (payload : List Byte) (s : State) :
    Host.Outcome State Fault Refusal :=
  event dt (takeCommand p .calRevert g payload) s

/-- CAL_CLOSE (R68). -/
def execCalClose (dt : Delay) (p : Port) (g : Option Guard) (payload : List Byte) (s : State) :
    Host.Outcome State Fault Refusal :=
  event dt (takeCommand p .calClose g payload) s

/-- SNAPSHOT_INTERVAL (R191). -/
def execSnapshotInterval (dt : Delay) (p : Port) (g : Option Guard) (payload : List Byte) (s : State) :
    Host.Outcome State Fault Refusal :=
  event dt (takeCommand p .snapshotInterval g payload) s

/-- READ_RECORD (R188). -/
def execReadRecord (dt : Delay) (p : Port) (g : Option Guard) (payload : List Byte) (s : State) :
    Host.Outcome State Fault Refusal :=
  event dt (takeCommand p .readRecord g payload) s

/-- IDENTIFY (R188). -/
def execIdentify (dt : Delay) (p : Port) (g : Option Guard) (payload : List Byte) (s : State) :
    Host.Outcome State Fault Refusal :=
  event dt (takeCommand p .identify g payload) s

/-- SUBSCRIBE_SET (R189). -/
def execSubscribeSet (dt : Delay) (p : Port) (g : Option Guard) (payload : List Byte) (s : State) :
    Host.Outcome State Fault Refusal :=
  event dt (takeCommand p .subscribeSet g payload) s

/-- SUBSCRIBE_CLEAR (R189). -/
def execSubscribeClear (dt : Delay) (p : Port) (g : Option Guard) (payload : List Byte) (s : State) :
    Host.Outcome State Fault Refusal :=
  event dt (takeCommand p .subscribeClear g payload) s

/-- TAKE_EVENTS (R190). -/
def execTakeEvents (dt : Delay) (p : Port) (g : Option Guard) (payload : List Byte) (s : State) :
    Host.Outcome State Fault Refusal :=
  event dt (takeCommand p .takeEvents g payload) s

/-- PEEK_EVENTS (R190). -/
def execPeekEvents (dt : Delay) (p : Port) (g : Option Guard) (payload : List Byte) (s : State) :
    Host.Outcome State Fault Refusal :=
  event dt (takeCommand p .peekEvents g payload) s

/-- PORT_RESET (R193). -/
def execPortReset (dt : Delay) (p : Port) (g : Option Guard) (payload : List Byte) (s : State) :
    Host.Outcome State Fault Refusal :=
  event dt (takeCommand p .portReset g payload) s

end Sys2Proof.Machine
end

