-- ==== Sys2Proof/Machine/InputEvents.lean ====
section
/-! DEFINITION. The meanings of the sensor events (chapter 1): samples, deadlines of inputs, wheels and the
solenoid supply monitor. A row whose moment has not come has no effect but the passage of time (log entry 3). -/

namespace Sys2Proof.Machine

/-- The end of an event that published input `i`: PCL forms E, so a commit may be applied (R177). -/
def reactInput (i : InputId) (s : State) : State := if i = .pcl then settle s else lacReact s

/-- ANALOG_SAMPLE (R5). -/
def execAnalogSample (dt : Delay) (i : InputId) (reading : Int) (openWire : Bool) (s : State) :
    Host.Outcome State Fault Refusal :=
  event dt (fun s => reactInput i (sampleArrives i reading openWire s)) s

/-- INPUT_HOLD_EXPIRY (R12). -/
def execInputHoldExpiry (dt : Delay) (i : InputId) (s : State) : Host.Outcome State Fault Refusal :=
  event dt (fun s =>
    if (s.input i).state = .hold ∧ dueAt s.now (s.input i).holdDeadline = true then reactInput i (inputFails i s)
    else s) s

/-- SETTLING_BAD_RUN_EXPIRY (R14). -/
def execSettlingBadRunExpiry (dt : Delay) (i : InputId) (s : State) : Host.Outcome State Fault Refusal :=
  event dt (fun s =>
    if (s.input i).state = .settling ∧ dueAt s.now (s.input i).holdDeadline = true then reactInput i (inputFails i s)
    else s) s

/-- TOOTH_EDGE (R16). -/
def execToothEdge (dt : Delay) (w : WheelEnd) (s : State) : Host.Outcome State Fault Refusal :=
  event dt (fun s => s.setWheel w ((s.wheel w).edge s.nowUs)) s

/-- WHEEL_EVALUATION (R17). -/
def execWheelEvaluation (dt : Delay) (s : State) : Host.Outcome State Fault Refusal :=
  event dt (WheelEnd.list.foldl evaluateWheel) s

/-- OPEN_WIRE_APPEAR (R20). -/
def execOpenWireAppear (dt : Delay) (w : WheelEnd) (s : State) : Host.Outcome State Fault Refusal :=
  event dt (fun s => s.setWheel w ((s.wheel w).wireOpens s.brake.inHoldTime s.now)) s

/-- OPEN_WIRE_DISAPPEAR (R20). -/
def execOpenWireDisappear (dt : Delay) (w : WheelEnd) (s : State) : Host.Outcome State Fault Refusal :=
  event dt (fun s => s.setWheel w ((s.wheel w).wireCloses s.now)) s

/-- WHEEL_HOLD_EXPIRY (R20, and R19 in SETTLING). -/
def execWheelHoldExpiry (dt : Delay) (w : WheelEnd) (s : State) : Host.Outcome State Fault Refusal :=
  event dt (fun s =>
    if ((s.wheel w).state = .hold ∨ (s.wheel w).state = .settling) ∧ dueAt s.now (s.wheel w).holdDeadline = true then
      wheelFails w s
    else s) s

/-- WHEEL_RECOVERY_EXPIRY (R21). -/
def execWheelRecoveryExpiry (dt : Delay) (w : WheelEnd) (s : State) : Host.Outcome State Fault Refusal :=
  event dt (fun s =>
    if (s.wheel w).state = .lost ∧ dueAt s.now (s.wheel w).recoveryEnd = true then wheelRecovers w s else s) s

/-- SUPPLY_LOW_TIMER_EXPIRY (R22). -/
def execSupplyLowTimerExpiry (dt : Delay) (s : State) : Host.Outcome State Fault Refusal :=
  event dt (fun s =>
    if s.icu.supplyLow = false ∧ dueAt s.now s.icu.lowTimer = true then settle (raiseSupplyLow s) else s) s

/-- SUPPLY_CLEAR_TIMER_EXPIRY (R23). -/
def execSupplyClearTimerExpiry (dt : Delay) (s : State) : Host.Outcome State Fault Refusal :=
  event dt (fun s =>
    if s.icu.supplyLow = true ∧ dueAt s.now s.icu.clearTimer = true then lacReact (clearSupplyLow s) else s) s

end Sys2Proof.Machine
end

