-- ==== Sys2Proof/Machine/TyreEvents.lean ====
section
/-! DEFINITION. The meanings of the tyre events (chapter 2). -/

namespace Sys2Proof.Machine

/-- TELEGRAM_LENGTH_REJECTED (R25). -/
def execTelegramLengthRejected (dt : Delay) (byte : Byte) (s : State) : Host.Outcome State Fault Refusal :=
  event dt (fun s => if s.ttr.rx.isNone && !lengthOk byte then lineByte byte s else s) s

/-- TELEGRAM_FRAME (R26): the check byte of a frame arrives. -/
def execTelegramFrame (dt : Delay) (byte : Byte) (s : State) : Host.Outcome State Fault Refusal :=
  event dt (fun s => if s.completes then lacReact (lineByte byte s) else s) s

/-- TELEGRAM_GAP_TIMEOUT (R25). -/
def execTelegramGapTimeout (dt : Delay) (s : State) : Host.Outcome State Fault Refusal :=
  event dt (fun s => if s.ttr.rx.isSome && dueAt s.now s.ttr.gapDeadline then abandonFrame s else s) s

/-- TELEGRAM_FRAMING_ERROR (R25). -/
def execTelegramFramingError (dt : Delay) (s : State) : Host.Outcome State Fault Refusal :=
  event dt abandonFrame s

/-- TELEGRAM_LINE_BYTE (R25): any byte is taken as R25 and R26 give. A byte that completes no frame reaches no other
block. -/
def execTelegramLineByte (dt : Delay) (byte : Byte) (s : State) : Host.Outcome State Fault Refusal :=
  event dt (fun s => if s.completes then lacReact (lineByte byte s) else lineByte byte s) s

/-- MISSING_DEADLINE_EXPIRY (R34). -/
def execMissingDeadlineExpiry (dt : Delay) (y : Tyre) (s : State) : Host.Outcome State Fault Refusal :=
  event dt (fun s =>
    if dueAt s.now (s.tyre y).missingDeadline then lacReact (tyreMissing y s) else s) s

/-- LEARN_DEADLINE_EXPIRY (R47). -/
def execLearnDeadlineExpiry (dt : Delay) (s : State) : Host.Outcome State Fault Refusal :=
  event dt (fun s =>
    if dueAt s.now (s.ttr.learn.slot.map fun x => x.deadline) then failLearn s else s) s

/-- DRAG_TIMER_EXPIRY (R51). -/
def execDragTimerExpiry (dt : Delay) (w : WheelEnd) (s : State) : Host.Outcome State Fault Refusal :=
  event dt (fun s => if s.dragDue w then dragReached w s else s) s

end Sys2Proof.Machine
end

