-- ==== Sys2Proof/Machine/LoadEvents.lean ====
section
/-! DEFINITION. The meanings of the load and lift events (chapter 3). -/

namespace Sys2Proof.Machine

/-- RELEASE_TIMER_EXPIRY (R61). -/
def execReleaseTimerExpiry (dt : Delay) (s : State) : Host.Outcome State Fault Refusal :=
  event dt (fun s =>
    if s.leu.frozen && ranFor s.now s.brake.loadReleaseTime s.leu.release then lacReact (releaseLoads s) else s) s

/-- RAISE_TIMEOUT (R74). -/
def execRaiseTimeout (dt : Delay) (s : State) : Host.Outcome State Fault Refusal :=
  event dt (fun s =>
    if s.lac.state = .raising ∧ dueAt s.now s.lac.deadline = true then lacReact (forceLower (liftTimeout s)) else s) s

/-- LOWER_TIMEOUT (R78). -/
def execLowerTimeout (dt : Delay) (s : State) : Host.Outcome State Fault Refusal :=
  event dt (fun s =>
    if s.lac.state = .lowering ∧ dueAt s.now s.lac.deadline = true then lacReact (liftTimeout (reachDown s)) else s) s

/-- AUTO_TIMER_EXPIRY (R81): the request is taken, and the triggers may then reverse it at once. -/
def execAutoTimerExpiry (dt : Delay) (s : State) : Host.Outcome State Fault Refusal :=
  event dt (fun s =>
    if s.lac.auto = true ∧ ranFor s.now 10000 s.lac.autoTimer = true ∧ raiseBar s = none then
      lacReact (requestRaise .auto .ignored { s with lac := { s.lac with autoTimer := none } })
    else s) s

/-- BUTTON_INPUT_CHANGE (R80). -/
def execButtonInputChange (dt : Delay) (pressed : Bool) (s : State) : Host.Outcome State Fault Refusal :=
  event dt (fun s =>
    if s.lac.pin = pressed then s else { s with lac := { s.lac with pin := pressed, pinSince := s.now } }) s

/-- The button level of a pin level (R80). -/
def buttonOf (pressed : Bool) : ButtonLevel := if pressed then .pressed else .released

/-- R80: a level that has stood for 50 ms becomes the button level; a change from RELEASED to PRESSED is a
press. -/
def debounce (s : State) : State :=
  let old := s.lac.button
  let new := buttonOf s.lac.pin
  let s := { s with lac := { s.lac with button := new } }
  if old = .released ∧ new = .pressed then lacReact (press s) else s

/-- BUTTON_DEBOUNCED (R80). -/
def execButtonDebounced (dt : Delay) (s : State) : Host.Outcome State Fault Refusal :=
  event dt (fun s => if 50 ≤ since s.now s.lac.pinSince then debounce s else s) s

end Sys2Proof.Machine
end

