-- ==== Sys2Proof/Machine/DemandEvents.lean ====
section
/-! DEFINITION. The meanings of the demand events (chapter 4). -/

namespace Sys2Proof.Machine

/-- FRESHNESS_DEADLINE_EXPIRY (R84). -/
def execFreshnessDeadlineExpiry (dt : Delay) (k : Controller) (s : State) : Host.Outcome State Fault Refusal :=
  event dt (fun s =>
    if (s.ctrl k).fresh = .fresh ∧ dueAt s.now (s.ctrl k).deadline = true then settle (staleDemand k s) else s) s

/-- HOLD_DEADLINE_EXPIRY (R90). -/
def execHoldDeadlineExpiry (dt : Delay) (s : State) : Host.Outcome State Fault Refusal :=
  event dt (fun s =>
    if s.dar.mode = .holding ∧ dueAt s.now s.dar.holdDeadline = true then settle (expireHold s) else s) s

/-- RESUME_WINDOW_COMPLETE (R92). -/
def execResumeWindowComplete (dt : Delay) (s : State) : Host.Outcome State Fault Refusal :=
  event dt (fun s =>
    if s.dar.mode = .sensed ∧ dueAt s.now (s.dar.resume.map fun w => w.complete) = true then settle (resumeElectric s)
    else s) s

/-- MISMATCH_TIMER_EXPIRY (R97). -/
def execMismatchTimerExpiry (dt : Delay) (s : State) : Host.Outcome State Fault Refusal :=
  event dt (fun s =>
    if ranFor s.now 300 s.dar.mismatch then
      raise .controlLineMismatch { s with dar := { s.dar with mismatch := none } }
    else s) s

/-- SUPPLY_LOW_TIMER_1000 (R98). -/
def execSupplyLowTimer1000 (dt : Delay) (s : State) : Host.Outcome State Fault Refusal :=
  event dt (fun s =>
    if ranFor s.now 1000 s.dar.airLow then
      lacReact (raise .airSupplyLow { s with dar := { s.dar with airLow := none } })
    else s) s

end Sys2Proof.Machine
end

