-- ==== Sys2Proof/Machine/ChannelEvents.lean ====
section
/-! DEFINITION. The meanings of the channel events (chapter 6). -/

namespace Sys2Proof.Machine

/-- Two blocks act on the same event in an order the spec leaves open (R151): where the order makes no
difference none is chosen (log entry 9). -/
def eitherOrder (f g : State → State) (s : State) : State :=
  let x := g (f s)
  let y := f (g s)
  if x = y then x
  else
    let k := s.coin
    if k.1 then g (f k.2) else f (g k.2)

/-- What the channel controllers do at an evaluation once speeds and slips are written (R124 to R129). -/
def channelsOnReference (s : State) : State := judgeUnavailable (antilockAll s)

/-- R122: a reference evaluation and all it brings. -/
def referenceStep (s : State) : State :=
  let s := evaluateReference s
  let s := if s.standstill then s else calAbort s
  settle (eitherOrder channelsOnReference rollOnReference s)

/-- Whether a channel's deadline has been reached in a state and phase. -/
def State.phaseDue (s : State) (c : Channel) (ph : Phase) : Bool :=
  (s.chan c).state == .antilock && (s.chan c).phase == ph && dueAt s.now (s.chan c).phaseDeadline

/-- Whether the hold deadline of a channel in state `st` has been reached. -/
def State.holdDue (s : State) (c : Channel) (st : ChState) : Bool :=
  (s.chan c).state == st && dueAt s.now (s.chan c).holdDeadline

/-- A test of a coil is noted, and its result taken (R134). -/
def coilTested (k : Coil) (kind : TestKind) (x : TestResult) (s : State) : State :=
  lacReact (coilResult k x (s.setCoil k { s.coil k with lastTest := some ⟨kind, s.now, x⟩ }))

/-- R132: the on-check deadline of a coil has passed with its driver on. -/
def onCheck (k : Coil) (below : Bool) (s : State) : State :=
  let s := s.setCoil k { s.coil k with onCheck := none }
  if s.faulted .supplyLow then s else coilTested k .onCheck (if below then .openCircuit else .pass) s

/-- R133: a visit of the patrol. -/
def patrolStep (x : TestResult) (s : State) : State :=
  let k := s.chc.patrol
  let s := { s with chc := { s.chc with patrol := nextCoil k } }
  if (s.coil k).readback || s.faulted .supplyLow then s else coilTested k .patrol x s

/-- REFERENCE_EVALUATION (R122). -/
def execReferenceEvaluation (dt : Delay) (s : State) : Host.Outcome State Fault Refusal :=
  event dt referenceStep s

/-- DUMP_DEADLINE_EXPIRY (R125). -/
def execDumpDeadlineExpiry (dt : Delay) (c : Channel) (s : State) : Host.Outcome State Fault Refusal :=
  event dt (fun s => if s.phaseDue c .dump then enterAntilockHold c s else s) s

/-- ANTILOCK_HOLD_EXPIRY (R126). -/
def execAntilockHoldExpiry (dt : Delay) (c : Channel) (s : State) : Host.Outcome State Fault Refusal :=
  event dt (fun s => if s.phaseDue c .hold then enterReapply c s else s) s

/-- REAPPLY_STEP (R127). -/
def execReapplyStep (dt : Delay) (c : Channel) (s : State) : Host.Outcome State Fault Refusal :=
  event dt (fun s => if s.phaseDue c .reapply then rampStep c s else s) s

/-- TRACKING_TIME_REACHED (R121). -/
def execTrackingTimeReached (dt : Delay) (c : Channel) (s : State) : Host.Outcome State Fault Refusal :=
  event dt (fun s => if s.trackingDue c then trackingFails c s else s) s

/-- SAFE_HOLD_EXPIRY (R131). -/
def execSafeHoldExpiry (dt : Delay) (c : Channel) (s : State) : Host.Outcome State Fault Refusal :=
  event dt (fun s => if s.holdDue c .safeHold then latchSensor c s else s) s

/-- CONVERGE_TIMEOUT (R139). -/
def execConvergeTimeout (dt : Delay) (c : Channel) (s : State) : Host.Outcome State Fault Refusal :=
  event dt (fun s => if s.holdDue c .converge then enterRegulate c s else s) s

/-- ON_CHECK_EXPIRY (R132): `below` says that the current is below the open-load threshold. -/
def execOnCheckExpiry (dt : Delay) (k : Coil) (below : Bool) (s : State) : Host.Outcome State Fault Refusal :=
  event dt (fun s =>
    if (s.coil k).readback && dueAt s.now (s.coil k).onCheck then onCheck k below s else s) s

/-- OVERCURRENT (R132). -/
def execOvercurrent (dt : Delay) (k : Coil) (s : State) : Host.Outcome State Fault Refusal :=
  event dt (fun s => if (s.coil k).readback then lacReact (coilResult k .short s) else s) s

/-- PATROL_VISIT (R133): `result` is what a test of the coil would find. -/
def execPatrolVisit (dt : Delay) (result : TestResult) (s : State) : Host.Outcome State Fault Refusal :=
  event dt (patrolStep result) s

end Sys2Proof.Machine
end

