-- ==== Sys2Proof/Machine/RollStoreEvents.lean ====
section
/-! DEFINITION. The meanings of the roll events (chapter 7) and of the store events (chapter 9). -/

namespace Sys2Proof.Machine

/-- PROBE_DEADLINE_EXPIRY (R152). -/
def execProbeDeadlineExpiry (dt : Delay) (s : State) : Host.Outcome State Fault Refusal :=
  event dt (fun s =>
    if s.rsu.state = .probe ∧ dueAt s.now s.rsu.probeDeadline = true then lacReact (probeEnds s) else s) s

/-- QUIET_TIMER_COMPLETE (R154). -/
def execQuietTimerComplete (dt : Delay) (s : State) : Host.Outcome State Fault Refusal :=
  event dt (fun s =>
    if s.rsu.state = .intervene ∧ ranFor s.now 500 s.rsu.quiet = true then lacReact (rollToRecover s) else s) s

/-- RECOVERY_STEP (R155). -/
def execRecoveryStep (dt : Delay) (s : State) : Host.Outcome State Fault Refusal :=
  event dt (fun s =>
    if s.rsu.state = .recover ∧ dueAt s.now s.rsu.nextStep = true then lacReact (rollStep s) else s) s

/-- COMMIT_EXPIRY (R177). -/
def execCommitExpiry (dt : Delay) (s : State) : Host.Outcome State Fault Refusal :=
  event dt (fun s =>
    if s.cfs.commit.pending && dueAt s.now s.cfs.commit.deadline then endCommit .expired s else s) s

/-- STORE_WRITE_END (R178): `pass` says whether the read-back check passes. -/
def execStoreWriteEnd (dt : Delay) (pass : Bool) (s : State) : Host.Outcome State Fault Refusal :=
  event dt (fun s =>
    match s.cfs.write with
    | some w => endWrite w pass s
    | none => s) s

end Sys2Proof.Machine
end

