-- ==== Sys2Proof/Machine/Dispatch.lean ====
section
/-! DEFINITION. The dispatch: one arm for each command of the table, in the order of Sys2Proof/Syntax.lean. -/

namespace Sys2Proof.Machine

def exec (i : Instr) (s : State) : Host.Outcome State Fault Refusal :=
  match i with
  | .hardReset found => Sys2Proof.Machine.execHardReset found s
  | .spiTransactionBegin dt p => Sys2Proof.Machine.execSpiTransactionBegin dt p s
  | .nullFrame dt p => Sys2Proof.Machine.execNullFrame dt p s
  | .badFrame dt p bytes => Sys2Proof.Machine.execBadFrame dt p bytes s
  | .portTFrameGap dt => Sys2Proof.Machine.execPortTFrameGap dt s
  | .portTFramingError dt => Sys2Proof.Machine.execPortTFramingError dt s
  | .portTFrameDropped dt => Sys2Proof.Machine.execPortTFrameDropped dt s
  | .portTResponseSent dt => Sys2Proof.Machine.execPortTResponseSent dt s
  | .demand dt p g payload => Sys2Proof.Machine.execDemand dt p g payload s
  | .resumeElectric dt p g payload => Sys2Proof.Machine.execResumeElectric dt p g payload s
  | .clearPassthrough dt p g payload => Sys2Proof.Machine.execClearPassthrough dt p g payload s
  | .jointReset dt p g payload => Sys2Proof.Machine.execJointReset dt p g payload s
  | .channelRestore dt p g payload => Sys2Proof.Machine.execChannelRestore dt p g payload s
  | .clearFirst dt p g payload => Sys2Proof.Machine.execClearFirst dt p g payload s
  | .commitBrake dt p g payload => Sys2Proof.Machine.execCommitBrake dt p g payload s
  | .stage dt p g payload => Sys2Proof.Machine.execStage dt p g payload s
  | .confirmBrake dt p g payload => Sys2Proof.Machine.execConfirmBrake dt p g payload s
  | .discardBrake dt p g payload => Sys2Proof.Machine.execDiscardBrake dt p g payload s
  | .commitTyre dt p g payload => Sys2Proof.Machine.execCommitTyre dt p g payload s
  | .liftRequest dt p g payload => Sys2Proof.Machine.execLiftRequest dt p g payload s
  | .learn dt p g payload => Sys2Proof.Machine.execLearn dt p g payload s
  | .unbind dt p g payload => Sys2Proof.Machine.execUnbind dt p g payload s
  | .tyreAckSet dt p g payload => Sys2Proof.Machine.execTyreAckSet dt p g payload s
  | .tyreAckClear dt p g payload => Sys2Proof.Machine.execTyreAckClear dt p g payload s
  | .clearInactive dt p g payload => Sys2Proof.Machine.execClearInactive dt p g payload s
  | .calOpen dt p g payload => Sys2Proof.Machine.execCalOpen dt p g payload s
  | .calCapture dt p g payload => Sys2Proof.Machine.execCalCapture dt p g payload s
  | .calApply dt p g payload => Sys2Proof.Machine.execCalApply dt p g payload s
  | .calRevert dt p g payload => Sys2Proof.Machine.execCalRevert dt p g payload s
  | .calClose dt p g payload => Sys2Proof.Machine.execCalClose dt p g payload s
  | .snapshotInterval dt p g payload => Sys2Proof.Machine.execSnapshotInterval dt p g payload s
  | .readRecord dt p g payload => Sys2Proof.Machine.execReadRecord dt p g payload s
  | .identify dt p g payload => Sys2Proof.Machine.execIdentify dt p g payload s
  | .subscribeSet dt p g payload => Sys2Proof.Machine.execSubscribeSet dt p g payload s
  | .subscribeClear dt p g payload => Sys2Proof.Machine.execSubscribeClear dt p g payload s
  | .takeEvents dt p g payload => Sys2Proof.Machine.execTakeEvents dt p g payload s
  | .peekEvents dt p g payload => Sys2Proof.Machine.execPeekEvents dt p g payload s
  | .portReset dt p g payload => Sys2Proof.Machine.execPortReset dt p g payload s
  | .analogSample dt input reading openWire => Sys2Proof.Machine.execAnalogSample dt input reading openWire s
  | .inputHoldExpiry dt input => Sys2Proof.Machine.execInputHoldExpiry dt input s
  | .settlingBadRunExpiry dt input => Sys2Proof.Machine.execSettlingBadRunExpiry dt input s
  | .toothEdge dt w => Sys2Proof.Machine.execToothEdge dt w s
  | .wheelEvaluation dt => Sys2Proof.Machine.execWheelEvaluation dt s
  | .openWireAppear dt w => Sys2Proof.Machine.execOpenWireAppear dt w s
  | .openWireDisappear dt w => Sys2Proof.Machine.execOpenWireDisappear dt w s
  | .wheelHoldExpiry dt w => Sys2Proof.Machine.execWheelHoldExpiry dt w s
  | .wheelRecoveryExpiry dt w => Sys2Proof.Machine.execWheelRecoveryExpiry dt w s
  | .supplyLowTimerExpiry dt => Sys2Proof.Machine.execSupplyLowTimerExpiry dt s
  | .supplyClearTimerExpiry dt => Sys2Proof.Machine.execSupplyClearTimerExpiry dt s
  | .telegramLengthRejected dt byte => Sys2Proof.Machine.execTelegramLengthRejected dt byte s
  | .telegramFrame dt byte => Sys2Proof.Machine.execTelegramFrame dt byte s
  | .telegramGapTimeout dt => Sys2Proof.Machine.execTelegramGapTimeout dt s
  | .telegramFramingError dt => Sys2Proof.Machine.execTelegramFramingError dt s
  | .missingDeadlineExpiry dt y => Sys2Proof.Machine.execMissingDeadlineExpiry dt y s
  | .learnDeadlineExpiry dt => Sys2Proof.Machine.execLearnDeadlineExpiry dt s
  | .dragTimerExpiry dt w => Sys2Proof.Machine.execDragTimerExpiry dt w s
  | .releaseTimerExpiry dt => Sys2Proof.Machine.execReleaseTimerExpiry dt s
  | .raiseTimeout dt => Sys2Proof.Machine.execRaiseTimeout dt s
  | .lowerTimeout dt => Sys2Proof.Machine.execLowerTimeout dt s
  | .autoTimerExpiry dt => Sys2Proof.Machine.execAutoTimerExpiry dt s
  | .buttonInputChange dt pressed => Sys2Proof.Machine.execButtonInputChange dt pressed s
  | .buttonDebounced dt => Sys2Proof.Machine.execButtonDebounced dt s
  | .freshnessDeadlineExpiry dt k => Sys2Proof.Machine.execFreshnessDeadlineExpiry dt k s
  | .holdDeadlineExpiry dt => Sys2Proof.Machine.execHoldDeadlineExpiry dt s
  | .resumeWindowComplete dt => Sys2Proof.Machine.execResumeWindowComplete dt s
  | .mismatchTimerExpiry dt => Sys2Proof.Machine.execMismatchTimerExpiry dt s
  | .supplyLowTimer1000 dt => Sys2Proof.Machine.execSupplyLowTimer1000 dt s
  | .referenceEvaluation dt => Sys2Proof.Machine.execReferenceEvaluation dt s
  | .dumpDeadlineExpiry dt c => Sys2Proof.Machine.execDumpDeadlineExpiry dt c s
  | .antilockHoldExpiry dt c => Sys2Proof.Machine.execAntilockHoldExpiry dt c s
  | .reapplyStep dt c => Sys2Proof.Machine.execReapplyStep dt c s
  | .trackingTimeReached dt c => Sys2Proof.Machine.execTrackingTimeReached dt c s
  | .safeHoldExpiry dt c => Sys2Proof.Machine.execSafeHoldExpiry dt c s
  | .convergeTimeout dt c => Sys2Proof.Machine.execConvergeTimeout dt c s
  | .onCheckExpiry dt k belowThreshold => Sys2Proof.Machine.execOnCheckExpiry dt k belowThreshold s
  | .overcurrent dt k => Sys2Proof.Machine.execOvercurrent dt k s
  | .patrolVisit dt result => Sys2Proof.Machine.execPatrolVisit dt result s
  | .probeDeadlineExpiry dt => Sys2Proof.Machine.execProbeDeadlineExpiry dt s
  | .quietTimerComplete dt => Sys2Proof.Machine.execQuietTimerComplete dt s
  | .recoveryStep dt => Sys2Proof.Machine.execRecoveryStep dt s
  | .commitExpiry dt => Sys2Proof.Machine.execCommitExpiry dt s
  | .storeWriteEnd dt pass => Sys2Proof.Machine.execStoreWriteEnd dt pass s
  | .snapshotTimerExpiry dt => Sys2Proof.Machine.execSnapshotTimerExpiry dt s
  | .jointResetWindowClose dt => Sys2Proof.Machine.execJointResetWindowClose dt s
  | .telegramLineByte dt byte => Sys2Proof.Machine.execTelegramLineByte dt byte s
  | .portTByte dt byte => Sys2Proof.Machine.execPortTByte dt byte s

end Sys2Proof.Machine
end

