-- ==== Sys2Proof/Safety.lean ====
section
/-! DEFINITION. The terms in which claims speak: what a command changes and what it leaves, when a command
frame is taken and how it is answered, and the invariants of the machine. -/

namespace Sys2Proof

/-- The time a command carries; HARD_RESET carries none. -/
def Instr.delay : Instr → Option Delay
  | .hardReset _ => none
  | .portTFrameGap dt | .portTFramingError dt | .portTFrameDropped dt | .portTResponseSent dt
  | .wheelEvaluation dt | .supplyLowTimerExpiry dt | .supplyClearTimerExpiry dt | .telegramGapTimeout dt
  | .telegramFramingError dt | .learnDeadlineExpiry dt | .releaseTimerExpiry dt | .raiseTimeout dt
  | .lowerTimeout dt | .autoTimerExpiry dt | .buttonDebounced dt | .holdDeadlineExpiry dt
  | .resumeWindowComplete dt | .mismatchTimerExpiry dt | .supplyLowTimer1000 dt | .referenceEvaluation dt
  | .probeDeadlineExpiry dt | .quietTimerComplete dt | .recoveryStep dt | .commitExpiry dt
  | .snapshotTimerExpiry dt | .jointResetWindowClose dt => some dt
  | .spiTransactionBegin dt _ | .nullFrame dt _ | .inputHoldExpiry dt _ | .settlingBadRunExpiry dt _
  | .toothEdge dt _ | .openWireAppear dt _ | .openWireDisappear dt _ | .wheelHoldExpiry dt _
  | .wheelRecoveryExpiry dt _ | .telegramLengthRejected dt _ | .telegramFrame dt _
  | .missingDeadlineExpiry dt _ | .dragTimerExpiry dt _ | .buttonInputChange dt _
  | .freshnessDeadlineExpiry dt _ | .dumpDeadlineExpiry dt _ | .antilockHoldExpiry dt _ | .reapplyStep dt _
  | .trackingTimeReached dt _ | .safeHoldExpiry dt _ | .convergeTimeout dt _ | .overcurrent dt _
  | .patrolVisit dt _ | .storeWriteEnd dt _ | .telegramLineByte dt _ | .portTByte dt _ => some dt
  | .badFrame dt _ _ | .onCheckExpiry dt _ _ => some dt
  | .demand dt _ _ _ | .resumeElectric dt _ _ _ | .clearPassthrough dt _ _ _ | .jointReset dt _ _ _
  | .channelRestore dt _ _ _ | .clearFirst dt _ _ _ | .commitBrake dt _ _ _ | .stage dt _ _ _
  | .confirmBrake dt _ _ _ | .discardBrake dt _ _ _ | .commitTyre dt _ _ _ | .liftRequest dt _ _ _
  | .learn dt _ _ _ | .unbind dt _ _ _ | .tyreAckSet dt _ _ _ | .tyreAckClear dt _ _ _
  | .clearInactive dt _ _ _ | .calOpen dt _ _ _ | .calCapture dt _ _ _ | .calApply dt _ _ _
  | .calRevert dt _ _ _ | .calClose dt _ _ _ | .snapshotInterval dt _ _ _ | .readRecord dt _ _ _
  | .identify dt _ _ _ | .subscribeSet dt _ _ _ | .subscribeClear dt _ _ _ | .takeEvents dt _ _ _
  | .peekEvents dt _ _ _ | .portReset dt _ _ _ | .analogSample dt _ _ _ => some dt

end Sys2Proof

namespace Sys2Proof.Machine

/-! ## What a command changes and what it leaves -/

/-- The blocks of the part (chapter 10's PIF is the port interface). -/
inductive Block where
  | icu | ttr | leu | lac | dar | channels | chc | rsu | flm | cfs | pif
deriving DecidableEq, Repr

/-- A block holds in `t` what it holds in `s`. -/
def Same (s t : State) : Block → Prop
  | .icu => t.icu = s.icu
  | .ttr => t.ttr = s.ttr
  | .leu => t.leu = s.leu
  | .lac => t.lac = s.lac
  | .dar => t.dar = s.dar
  | .channels => t.channels = s.channels
  | .chc => t.chc = s.chc
  | .rsu => t.rsu = s.rsu
  | .flm => t.flm = s.flm
  | .cfs => t.cfs = s.cfs
  | .pif => t.pif = s.pif

/-- From `s` to `t`, `dt` microseconds pass, the waiting commands stay, and no block outside `l` changes. -/
def Changes (dt : Delay) (l : List Block) (s t : State) : Prop :=
  t.clock = s.clock.advance dt ∧ t.pending = s.pending ∧ ∀ b, b ∉ l → Same s t b

/-- Of the tyre telegram receiver only the drag supervision may differ (R51). -/
def TyresKept (s t : State) : Prop :=
  t.ttr = { s.ttr with wheels := t.ttr.wheels } ∧
  ∀ w, (t.wheelTyre w).cond = (s.wheelTyre w).cond ∧ (t.wheelTyre w).derate = (s.wheelTyre w).derate

/-- Of the port interface only the event queues and the subscriptions may differ. -/
def LinesKept (s t : State) : Prop := t.pif = { s.pif with queues := t.pif.queues }

/-- Of the port interface only the event queues, the subscriptions and the lines may differ. -/
def TimersKept (s t : State) : Prop :=
  t.pif = { s.pif with queues := t.pif.queues, spi := t.pif.spi, uart := t.pif.uart }

/-- The event queues and the subscriptions of all ports stand as they were. -/
def QueuesKept (s t : State) : Prop := t.pif.queues = s.pif.queues

/-! ## Taken commands (R182, R183) -/

/-- The command row of a command of R185. -/
def Command.instr : Command → Delay → Port → Option Guard → List Byte → Instr
  | .demand => Instr.demand
  | .resumeElectric => Instr.resumeElectric
  | .clearPassthrough => Instr.clearPassthrough
  | .jointReset => Instr.jointReset
  | .channelRestore => Instr.channelRestore
  | .clearFirst => Instr.clearFirst
  | .commitBrake => Instr.commitBrake
  | .stage => Instr.stage
  | .confirmBrake => Instr.confirmBrake
  | .discardBrake => Instr.discardBrake
  | .commitTyre => Instr.commitTyre
  | .liftRequest => Instr.liftRequest
  | .learn => Instr.learn
  | .unbind => Instr.unbind
  | .tyreAckSet => Instr.tyreAckSet
  | .tyreAckClear => Instr.tyreAckClear
  | .clearInactive => Instr.clearInactive
  | .calOpen => Instr.calOpen
  | .calCapture => Instr.calCapture
  | .calApply => Instr.calApply
  | .calRevert => Instr.calRevert
  | .calClose => Instr.calClose
  | .snapshotInterval => Instr.snapshotInterval
  | .readRecord => Instr.readRecord
  | .identify => Instr.identify
  | .subscribeSet => Instr.subscribeSet
  | .subscribeClear => Instr.subscribeClear
  | .takeEvents => Instr.takeEvents
  | .peekEvents => Instr.peekEvents
  | .portReset => Instr.portReset

/-- The payload length of a command, where R185 gives one length. -/
def Command.payloadLength : Command → Nat
  | .demand | .confirmBrake | .tyreAckSet | .tyreAckClear | .snapshotInterval => 2
  | .stage | .readRecord => 4
  | .channelRestore | .liftRequest | .learn | .unbind | .calRevert | .takeEvents | .peekEvents => 1
  | .calCapture => 5
  | .subscribeSet | .subscribeClear => 8
  | .resumeElectric | .clearPassthrough | .jointReset | .clearFirst | .commitBrake | .discardBrake | .commitTyre
  | .clearInactive | .calOpen | .calApply | .calClose | .identify | .portReset => 0

/-- R183: a guard, where one is present, finds its condition at the expected level. -/
def guardOk (g : Option Guard) (s : State) : Bool :=
  match g with
  | none => true
  | some x => holds x.cond s == x.level

/-- A command frame reaches step 4 of R183: it is taken (port T discards none for want of room), permitted
and not turned away by its guard. -/
def accepted (p : Port) (c : Command) (g : Option Guard) (payload : List Byte) (s : State) : Bool :=
  !s.discards p && permitted p c payload && guardOk g s

/-- From `s` to `t` a response joins port `p` (R182): it is the pending response of an SPI port, whose
transaction has ended, or stands last among those port T holds, with no frame in reception. The other
lines stay. Where no transaction has begun on the SPI port, the answer has begun and ended one: DESIGN CHOICE, log
entry 5, on which every statement that a command is answered on such a port rests. -/
def Answered (p : Port) (r : Response) (s t : State) : Prop :=
  match p.controller with
  | some k =>
    t.pif.spi.get k = { (endTransaction k s).pif.spi.get k with pending := some r } ∧
      t.pif.spi.get k.other = s.pif.spi.get k.other ∧ t.pif.uart = s.pif.uart
  | none =>
    t.pif.spi = s.pif.spi ∧
      t.pif.uart = { s.pif.uart with rx := none, held := s.pif.uart.held ++ [r] }

/-- A command is answered on its port (`Answered`, log entry 5), and of the port interface nothing changes but
that line and the event queues. -/
def Done (p : Port) (c : Command) (a : Answer) (s t : State) : Prop :=
  Answered p ⟨byteOf c.code, a⟩ s t ∧ TimersKept s t

/-- A command is answered (`Answered`, log entry 5) and has no effect (R183). -/
def TurnedAway (dt : Delay) (p : Port) (c : Command) (a : Answer) (s t : State) : Prop :=
  Done p c a s t ∧ QueuesKept s t ∧ Changes dt [.pif] s t

/-- No brake commit waits for its moment of application (R177). -/
def noCommit (s : State) : Bool := !s.cfs.commit.confirmed

/-- R6, R8, R11, R13, R14: the good sample `x` leaves input `i` VALID: the input is VALID or in HOLD, or the sample
ends a good run of 100 ms in LOST or in SETTLING. -/
def turnsValid (dt : Delay) (i : InputId) (x : Int) (s : State) : Prop :=
  ((nominal i).1 - margin i ≤ x ∧ x ≤ (nominal i).2 + margin i) ∧
  ((s.input i).state = .valid ∨ (s.input i).state = .hold ∨
    ((s.input i).state = .lost ∨ (s.input i).state = .settling ∧ (s.input i).holdDeadline = none) ∧
      ∃ d, (s.input i).runStart = some d ∧ 100 ≤ since (s.tick dt).now d)

/-! ## Channels (R121, R138) -/

/-- R138, R139: in `t` channel `c` has entered CONVERGE at `now`, holding pressure `m` against setpoint `sp`, or, where
`sp` is within `reg_band` of `m`, REGULATE. The coil action is HOLD. -/
def Converges (now : Stamp) (p : BrakeSet) (c : Channel) (m sp : Int) (t : State) : Prop :=
  let r := t.chan c
  r.action = .hold ∧
  if -p.regBand ≤ sp - m ∧ sp - m ≤ p.regBand then
    r.state = .regulate ∧ r.held = none ∧ r.holdDeadline = none ∧ r.side = none
  else
    r.state = .converge ∧ r.held = some m ∧ r.holdDeadline = some (after now p.convergeTimeout) ∧
      r.side = if sp < m then some .below else if m < sp then some .above else none

/-- R121: from channel record `r` to `u`, still in REGULATE, the tracking time at `now` goes on, stops or returns to 0
as the deviation of the setpoint from the measured pressure `m` and the tolerance `tol` say. -/
def Tracks (now : Stamp) (tol : Int) (m : Marked) (r u : ChannelRec) : Prop :=
  let beyond := tol < r.sp.value - m.val ∨ tol < m.val - r.sp.value
  u.state = .regulate ∧
  (m.mark = .valid → beyond → u.trackAccum = r.trackAccum ∧
    u.trackSince = some (match r.trackSince with | some a => a | none => now)) ∧
  (m.mark = .valid → ¬beyond → u.trackAccum = 0 ∧ u.trackSince = none) ∧
  (m.mark = .degraded → u.trackSince = none ∧ u.trackAccum = r.trackAccum +
    match r.trackSince with | some a => since now a | none => 0)

/-! ## Invariants

Each holds after every command from every state in which all of them hold; none speaks of the time. -/

/-- Chapter 8: the active set holds a pair once and with its effective severity; the list holds at most 15
entries, one for a pair, and an active entry's pair is in the set; the lines follow the set. -/
def FaultsOk (s : State) : Prop :=
  (s.flm.active.map fun a => a.pair).Nodup ∧
  (∀ a ∈ s.flm.active, a.severity = severityOf s.brake a.pair) ∧
  s.flm.entries.length ≤ 15 ∧
  (s.flm.entries.map fun r => r.pair).Nodup ∧
  (∀ r ∈ s.flm.entries, r.active = true → s.faulted r.pair = true ∧ r.severity = severityOf s.brake r.pair) ∧
  (s.flm.warnLine = true ↔ ∃ a ∈ s.flm.active, a.severity ≠ .note) ∧
  (s.flm.severeLine = true ↔ ∃ a ∈ s.flm.active, a.severity = .severe)

/-- R189, R182, R191: an event queue holds at most 16 entries, one for an edge; port T holds at most 8
responses; the snapshot timer runs exactly while the interval, a multiple of 100 up to 30000, is not 0;
SNAPSHOT_READY stands for a record. -/
def PortsOk (s : State) : Prop :=
  (∀ p, (s.pif.queues.get p).queue.length ≤ 16 ∧ ((s.pif.queues.get p).queue.map fun x => x.edge).Nodup ∧
    ∀ x ∈ (s.pif.queues.get p).queue, x.repeats ≤ 255) ∧
  s.pif.uart.held.length ≤ 8 ∧
  s.pif.interval ≤ 30000 ∧ s.pif.interval % 100 = 0 ∧
  (s.pif.nextSnapshot.isSome = true ↔ s.pif.interval ≠ 0) ∧
  (s.pif.snapshotReady = true → s.pif.snapshot.isSome = true)

/-- Sections 6.3 and 6.9: every coil is commanded as its channel's action, or the lift state, says, and its
driver is on exactly while it is commanded on and not SHORT. -/
def CoilsOk (s : State) : Prop :=
  (∀ c f, (s.coil (.of c f)).commanded = (s.chan c).action.on f) ∧
  (s.coil .lift).commanded = LiftState.coilOn s.lac.state ∧
  ∀ k, (s.coil k).readback = ((s.coil k).commanded && (s.coil k).status != .short) ∧
    ((s.coil k).onCheck.isSome = true → (s.coil k).readback = true)

/-- Chapter 6: the coil action, the latched causes and the fields of a state are those its channel state
allows; demand mode PASSTHROUGH holds every channel there (R135), and a lifted wheel end holds its
channel in PASSTHROUGH or INHIBITED (R140) and reports a slip of 0, as its channel does (R123, R157). -/
def ChannelsOk (s : State) : Prop :=
  (∀ w, s.lifted w = true → s.chc.slips.get w = 0) ∧
  ∀ c,
    ((s.chan c).state = .passthrough → (s.chan c).action = .release) ∧
    ((s.chan c).state = .inhibited → (s.chan c).action = .vent ∧ s.chanLifted c = true) ∧
    ((s.chan c).state = .safeHold ∨ (s.chan c).state = .converge →
      (s.chan c).action = .hold ∧ (s.chan c).held.isSome = true ∧ (s.chan c).holdDeadline.isSome = true) ∧
    ((s.chan c).state = .antilock →
      (s.chan c).phase ≠ .idle ∧ (s.chan c).pLock.isSome = true ∧ (s.chan c).phaseDeadline.isSome = true ∧
      ((s.chan c).phase = .dump → (s.chan c).action = .vent) ∧ ((s.chan c).phase = .hold → (s.chan c).action = .hold)) ∧
    ((s.chan c).state ≠ .antilock →
      (s.chan c).phase = .idle ∧ (s.chan c).pLock = none ∧ (s.chan c).ramp = none ∧ (s.chan c).phaseDeadline = none) ∧
    ((s.chan c).state ≠ .safeHold → (s.chan c).state ≠ .converge →
      (s.chan c).held = none ∧ (s.chan c).holdDeadline = none) ∧
    ((s.chan c).state ≠ .regulate → (s.chan c).trackAccum = 0 ∧ (s.chan c).trackSince = none) ∧
    ((s.chan c).latched.any = true → (s.chan c).state = .passthrough) ∧
    ((s.chan c).departPending = true → (s.chan c).state = .passthrough) ∧
    (s.dar.mode = .passthrough → (s.chan c).state = .passthrough) ∧
    (s.chanLifted c = true →
      ((s.chan c).state = .passthrough ∨ (s.chan c).state = .inhibited) ∧ (s.chan c).slip = 0)

/-- Chapter 4: E and the agreement are those of the present demands, mode and PCL; ELECTRIC rests on
agreement; deadlines, windows and votes stand exactly in the modes they belong to. -/
def DemandOk (s : State) : Prop :=
  s.dar.e = s.effective ∧
  s.dar.agreed = agreement s.brake.agreeTol s.dar.ctrl.a s.dar.ctrl.b ∧
  s.dar.agree = s.dar.agreed.isSome ∧
  (∀ x, s.dar.agreed = some x → s.dar.lastAgreed = x) ∧
  (s.dar.mode = .electric → s.dar.agree = true) ∧
  (s.dar.holdDeadline.isSome = true ↔ s.dar.mode = .holding) ∧
  (s.dar.resume.isSome = true ↔
    s.dar.mode = .sensed ∧ s.dar.ctrl.a.resumeVote = true ∧ s.dar.ctrl.b.resumeVote = true ∧ s.dar.agree = true) ∧
  (s.dar.mismatch.isSome = true → s.dar.mode = .electric) ∧
  (s.dar.startWait = true → s.dar.mode = .passthrough) ∧
  ∀ k, ((s.ctrl k).resumeVote = true → s.dar.mode = .sensed) ∧
    ((s.ctrl k).clearVote = true → s.dar.mode = .passthrough) ∧
    ((s.ctrl k).deadline.isSome = true ↔ (s.ctrl k).fresh = .fresh) ∧
    ((s.ctrl k).demand.isSome = true ↔ (s.ctrl k).fresh ≠ .absent) ∧
    ∀ v, (s.ctrl k).demand = some v → 0 ≤ v ∧ v ≤ 1000

/-- Chapter 7: WATCH, PROBE and INTERVENE stand only without a cause of unavailability, UNAVAILABLE only
with one, and the fault with the state (R146, R147); the sides, the floors and the deadlines belong to
the states that give them; the thresholds are those of the present fill and tyres (R145). -/
def RollOk (s : State) : Prop :=
  (s.rsu.state = .disabled ↔ s.brake.rollEnable = false) ∧
  (s.rsu.state = .watch ∨ s.rsu.state = .probe ∨ s.rsu.state = .intervene → s.rollCauses.any = false) ∧
  (s.rsu.state = .unavailable → s.rollCauses.any = true) ∧
  (s.rsu.state ≠ .disabled → s.rsu.causes = s.rollCauses) ∧
  (s.faulted .rollUnavailable = true ↔ s.rsu.state = .unavailable) ∧
  (s.rsu.inner.isSome = true ↔ givesFloors s.rsu.state = true) ∧
  (givesFloors s.rsu.state = false → s.rsu.innerFloor = 0 ∧ s.rsu.outerFloor = 0) ∧
  (∀ c, s.rsu.floors.get c = s.floorOf c) ∧
  (s.rsu.probeDeadline.isSome = true ↔ s.rsu.state = .probe) ∧
  (s.rsu.nextStep.isSome = true ↔ s.rsu.state = .recover) ∧
  (s.rsu.quiet.isSome = true → s.rsu.state = .intervene) ∧
  s.rsu.fillUsed = s.leu.fill ∧ s.rsu.penalty = s.penalty ∧
  s.rsu.aThr = rollThr s.brake s.leu.fill.val s.penalty ∧ s.rsu.aProbe = probeThr s.brake s.rsu.aThr

/-- Sections 3.2 to 3.6: sensor and group loads follow from what was read, the applied loads follow the live
ones outside FROZEN (R60), E above 0 freezes them, and a session is open only in the state CAL_OPEN
asks for (R64, R69). -/
def LoadsOk (s : State) : Prop :=
  (∀ b, s.leu.sensor.get b = s.sensorNow b) ∧
  s.leu.liveMain = mainLoad s.leu.sensor.pbl s.leu.sensor.pbr ∧ s.leu.liveLift = s.liveLiftNow ∧
  s.leu.liveTotal = addLoads s.leu.liveMain s.leu.liveLift ∧
  (s.leu.frozen = false →
    s.leu.appMain = s.leu.liveMain ∧ s.leu.appLift = s.leu.liveLift ∧ s.leu.release = none) ∧
  s.leu.appTotal = addLoads s.leu.appMain s.leu.appLift ∧
  (s.lac.state ≠ .down → s.leu.appLift = ⟨0, .valid⟩) ∧
  s.leu.fill = fillOf s.brake s.leu.appTotal ∧
  (0 < s.dar.e.val → s.leu.frozen = true) ∧
  (s.leu.frozen = true → (s.leu.release.isSome = true ↔ s.dar.e.val = 0 ∧ s.quiet = true)) ∧
  (s.leu.sessionOpen = true → s.standstill = true ∧ s.dar.e.val ≤ 0 ∧ s.lac.state = .down)

/-- Sections 3.9 and 3.10: a movement has its deadline, the auto timer runs only in AUTO and DOWN, and no
axle stands UP or RAISING against a trigger of R77. -/
def LiftOk (s : State) : Prop :=
  (s.lac.deadline.isSome = true ↔ s.lac.state = .raising ∨ s.lac.state = .lowering) ∧
  (s.lac.autoTimer.isSome = true → s.lac.auto = true ∧ s.lac.state = .down) ∧
  (s.lac.state = .raising ∨ s.lac.state = .up → s.lowerTrigger = false)

/-- An ID is bound in a list of bindings at one position at most (R46). -/
def bindingsDistinct (b : PerTyre (Option (BitVec 32))) : Prop :=
  ∀ y z id, b.get y = some id → b.get z = some id → y = z

/-- The bindings a content holds, where it is of the BINDINGS section. -/
def Content.bindingsOf : Content → Option (PerTyre (Option (BitVec 32)))
  | .bindings b => some b
  | _ => none

/-- Chapter 2: no ID is bound twice, in the table or in the store; a record's fields stand with its sensor
state; the wheel ends and their faults follow the records (R49 to R51); the counts and lists keep
their bounds. -/
def TyresOk (s : State) : Prop :=
  (∀ y z id, (s.tyre y).bound = some id → (s.tyre z).bound = some id → y = z) ∧
  (∀ b, (s.sect .bindings).stored = .good (.bindings b) → bindingsDistinct b) ∧
  (∀ w b, s.cfs.write = some w → w.content = .bindings b → bindingsDistinct b) ∧
  (∀ y, ((s.tyre y).bound = none ↔ (s.tyre y).state = .unbound) ∧
    ((s.tyre y).missingDeadline.isSome = true ↔ (s.tyre y).state = .awaiting ∨ (s.tyre y).state = .live) ∧
    ((s.tyre y).deadlineBase.isSome = true ↔ (s.tyre y).state = .awaiting ∨ (s.tyre y).state = .live) ∧
    ((s.tyre y).acked.isSome = true → (s.tyre y).hasAlarm = true) ∧ (s.tyre y).trend.length ≤ 8) ∧
  (∀ w, (s.wheelTyre w).cond = wheelCond (s.tyre (tyresOf w).1) (s.tyre (tyresOf w).2) ∧
    (s.wheelTyre w).derate = derateOf s.brake (s.wheelTyre w).cond ∧
    (s.faulted (.tyreFlat w) = true ↔ (s.wheelTyre w).cond = .flat) ∧
    (s.faulted (.brakeDrag w) = true ↔ (s.wheelTyre w).dragFlag = true)) ∧
  s.ttr.strangers.length ≤ 8 ∧ (s.ttr.strangers.map fun e => e.id).Nodup ∧
  s.ttr.accepted ≤ 65535 ∧ s.ttr.checkRejected ≤ 65535 ∧ s.ttr.formatRejected ≤ 65535 ∧ s.ttr.strangerCount ≤ 65535

/-- R102, R103: every channel's setpoint fields are what the stages 0 to 8 give for the present inputs. -/
def SetpointsOk (s : State) : Prop :=
  ∀ c, (s.chan c).sp = computeSetpoint s.brake c (s.setpointInputs c) (s.chan c).sp.computedAt

/-- Every value of a brake set lies in its range (R172). -/
def BrakeSet.inRange (p : BrakeSet) : Prop := ∀ n < 92, brakeInRange n (p.value n) = true

/-- Every value of a tyre set lies in its range (R172), and every profile fits its payload (R29). -/
def TyreSet.inRange (p : TyreSet) : Prop :=
  (∀ n < 77, tyreInRange p n (p.value n) = true) ∧ ∀ k < 4, (p.profile k).fits = true

/-- The active brake set, or the one a store content holds: in range and within the cross-limits (R175). -/
def BrakeSet.legal (p : BrakeSet) : Prop := p.inRange ∧ p.crossLimits = true

/-- The active tyre set, or the one a store content holds: in range, with `low_crit_frac` below
`low_warn_frac` (R174). -/
def TyreSet.legal (p : TyreSet) : Prop := p.inRange ∧ p.lowCritFrac < p.lowWarnFrac

/-- What a section may hold: a set of legal parameters, or anything of another class. -/
def Content.legal : Content → Prop
  | .brake p => p.legal
  | .tyre p => p.legal
  | _ => True

/-- Chapter 9: the active and the staged sets are legal, and so is what the store holds; a PENDING commit
has its digest, its deadline and a staged set within the cross-limits, and only such a commit is
confirmed; a section is dirty only while a write is in flight (R178); UNCONFIGURED stands until the
first commit (R180). -/
def ConfigOk (s : State) : Prop :=
  s.cfs.brake.legal ∧ s.cfs.stagedBrake.inRange ∧ s.cfs.tyre.legal ∧ s.cfs.stagedTyre.inRange ∧
  (∀ x q, (s.sect x).stored = .good q → q.legal) ∧
  (∀ w, s.cfs.write = some w → w.content.legal) ∧
  (s.cfs.commit.pending = true →
    s.cfs.stagedBrake.crossLimits = true ∧ s.cfs.commit.digest = some s.cfs.stagedBrake.digest ∧
    s.cfs.commit.deadline.isSome = true) ∧
  (s.cfs.commit.confirmed = true → s.cfs.commit.pending = true) ∧
  (s.cfs.write = none → ∀ x, (s.sect x).dirty = false) ∧
  (s.faulted .unconfigured = true ↔ s.cfs.unconfigured = true)

/-- All invariants together. -/
structure Inv (s : State) : Prop where
  faults : FaultsOk s
  ports : PortsOk s
  coils : CoilsOk s
  channels : ChannelsOk s
  demand : DemandOk s
  roll : RollOk s
  loads : LoadsOk s
  lift : LiftOk s
  tyres : TyresOk s
  setpoints : SetpointsOk s
  config : ConfigOk s

end Sys2Proof.Machine
end

