-- ==== Sys2Proof/Certificates/Slice0/Obligations.lean ====
section
/-! DEFINITION. The statements for the provers: what the spec's rules say of the commands and of the machine. -/

open Sys2Proof Sys2Proof.Machine


/-! ## The step and the commands as a whole -/

/-- The step takes the command at the front of the queue. On an empty queue it leaves the state as it is: the
model's choice, log entry 2. -/
def Obligations.StepRunsFrontCommand : Prop :=
  ∀ (c : Instr) (rest : List Instr) (s : State),
    step { s with pending := c :: rest } = exec c { s with pending := rest } ∧
    step { s with pending := [] } = .next { s with pending := [] }

/-- Every command answers a next state, leaves the waiting commands, and lets its time pass on both counters (R3,
R16), or sets them to 0 where it is the hard reset (R179). That a command carries its time is the model's choice,
log entry 1; that a hard reset sets the microsecond counter and the part of a millisecond to 0 with the time counter
is the model's choice, log entry 13. -/
def Obligations.EveryCommandAnswers : Prop :=
  ∀ (c : Instr) (s : State), ∃ t, exec c s = .next t ∧ t.pending = s.pending ∧
    t.clock = match c.delay with
      | some dt => s.clock.advance dt
      | none => Clock.hard

/-- R186, R189: a command other than the hard reset that leaves a condition at another level than it found it brings
that edge to every port that subscribes to it: an entry of that edge stands in the port's queue, or its LOST flag is
set. The level compared is that before the command and that after it; the entry or the LOST flag may have stood
before. -/
def Obligations.LevelChangesReachPorts : Prop :=
  ∀ (c : Instr) (s t : State), exec c s = .next t → c.delay.isSome = true →
    ∀ (p : Port) (k : Condition), holds k t ≠ holds k s →
      (t.pif.queues.get p).wants ⟨k, holds k t⟩ = true →
      (t.pif.queues.get p).lost = true ∨
        ∃ x ∈ (t.pif.queues.get p).queue, x.edge = ⟨k, holds k t⟩

/-! ## Frames (R181 to R183) -/

/-- R181, R183: a command frame's bytes, whatever follows them, read as that frame. -/
def Obligations.FrameBytesReadBack : Prop :=
  ∀ (f : Frame) (extra : List Byte), f.payload.length ≤ 48 → parseFrame (f.bytes ++ extra) = some f

/-- R183 step 1: what fails the frame check. R183, BAD_FRAME: a frame that fails the frame check, and is no null
frame of an SPI port, is answered BAD_FRAME on its port and has no other effect; port T discards it while 8
responses are held. The command echo is the byte at the command's place, or 0 where the frame is shorter or its
length byte of 0 leaves no command byte: the model's choice, log entry 14. Of an SPI port with no transaction begun
the answer rests on log entry 5. -/
def Obligations.BadFramesAreAnswered : Prop :=
  ((∀ (len : Byte) (rest : List Byte),
      (len.toNat < 2 ∨ 52 < len.toNat ∨ rest.length ≤ len.toNat ∨
        ∃ crc, rest[len.toNat]? = some crc ∧ crc8 (len :: rest.take len.toNat) ≠ crc) →
      parseFrame (len :: rest) = none) ∧
    (∀ (code : Byte) (rest : List Byte), code = 0#8 ∨ 30 < code.toNat → parseContent (code :: rest) = none) ∧
    (∀ (code flags : Byte) (rest : List Byte), 1 < flags.toNat → parseContent (code :: flags :: rest) = none) ∧
    (∀ (code cond level : Byte) (rest : List Byte), cond = 0#8 ∨ 20 < cond.toNat ∨ 1 < level.toNat →
      parseContent (code :: 1#8 :: cond :: level :: rest) = none)) ∧
  (∀ (dt : Delay) (p : Port) (bytes : List Byte) (s : State),
      parseFrame bytes = none → (p = .t ∨ bytes.head? ≠ some 0#8) → s.discards p = false →
      ∃ t, exec (.badFrame dt p bytes) s = .next t ∧
        Answered p ⟨if bytes.headD 0#8 = 0#8 then 0#8 else bytes.getD 1 0#8, .refused .badFrame⟩ s t ∧
        TimersKept s t ∧ QueuesKept s t ∧
        Changes dt [.pif] s t) ∧
  (∀ (dt : Delay) (bytes : List Byte) (s : State), parseFrame bytes = none → 8 ≤ s.pif.uart.held.length →
      exec (.badFrame dt .t bytes) s = .next { s.tick dt with pif := { s.pif with
        uart := { s.pif.uart with rx := none } } })

/-- R182, PORT_T_BYTE: outside a frame the start byte opens one and any other byte is discarded; within one a byte
joins it, and the byte that completes a command's frame takes that command. R183: the byte that completes a frame
which fails the frame check is answered BAD_FRAME, and with 8 responses held that frame is discarded. The command
echo of that answer is the model's choice, log entry 14. -/
def Obligations.PortTByteReceives : Prop :=
  ∀ (dt : Delay) (b : Byte) (s : State),
    (s.pif.uart.rx = none → b = 0xA5#8 →
      exec (.portTByte dt b) s = .next { s.tick dt with pif := { s.pif with
        uart := { s.pif.uart with rx := some [], lastByte := (s.tick dt).now } } }) ∧
    (s.pif.uart.rx = none → b ≠ 0xA5#8 → exec (.portTByte dt b) s = .next (s.tick dt)) ∧
    (∀ l, s.pif.uart.rx = some l → (l ++ [b]).length < ((l ++ [b]).headD 0#8).toNat + 2 →
      exec (.portTByte dt b) s = .next { s.tick dt with pif := { s.pif with
        uart := { s.pif.uart with rx := some (l ++ [b]), lastByte := (s.tick dt).now } } }) ∧
    (∀ (l : List Byte) (f : Frame), s.pif.uart.rx = some l → f.payload.length ≤ 48 → l ++ [b] = f.bytes →
      exec (.portTByte dt b) s = exec (Command.instr f.command dt .t f.guard f.payload) s) ∧
    (∀ l, s.pif.uart.rx = some l → ((l ++ [b]).headD 0#8).toNat + 2 ≤ (l ++ [b]).length →
      parseFrame (l ++ [b]) = none →
      (s.pif.uart.held.length < 8 →
        ∃ t, exec (.portTByte dt b) s = .next t ∧
          Answered .t ⟨if (l ++ [b]).headD 0#8 = 0#8 then 0#8 else (l ++ [b]).getD 1 0#8, .refused .badFrame⟩ s t ∧
          TimersKept s t ∧ QueuesKept s t ∧ Changes dt [.pif] s t) ∧
      (8 ≤ s.pif.uart.held.length →
        exec (.portTByte dt b) s = .next { s.tick dt with pif := { s.pif with
          uart := { s.pif.uart with rx := none } } }))

/-- R182, SPI_TRANSACTION_BEGIN and NULL_FRAME: the transaction clocks the pending response out, or a null response,
and empties it; a null frame ends the transaction and takes no command, and where none was begun it begins one and
ends it. That a transaction may begin while one is in progress, that a null frame may come with none begun, and that
of a null response the output field holds the length byte alone, are the model's choices, log entries 5 and 42.
R182, PORT_T_FRAME_GAP, PORT_T_FRAMING_ERROR, PORT_T_FRAME_DROPPED and PORT_T_RESPONSE_SENT: an abandoned frame is
answered BAD_FRAME unless 8 responses are held, and then it is dropped without an answer; a framing error outside a
frame changes nothing; with 8 held a frame is discarded; the oldest held response is sent. The command echo 0 of an
abandoned frame is the model's choice, log entry 14. -/
def Obligations.LinesCarryFrames : Prop :=
  (∀ (dt : Delay) (k : Controller) (s : State),
      exec (.spiTransactionBegin dt k) s = .next { s.tick dt with pif := { s.pif with
        spi := s.pif.spi.set k
          ⟨none, true, match (s.pif.spi.get k).pending with | some r => r.bytes | none => [0#8]⟩ } } ∧
      ((s.pif.spi.get k).transaction = true →
        exec (.nullFrame dt k) s = .next { s.tick dt with pif := { s.pif with
          spi := s.pif.spi.set k { s.pif.spi.get k with transaction := false } } }) ∧
      ((s.pif.spi.get k).transaction = false →
        exec (.nullFrame dt k) s = .next { s.tick dt with pif := { s.pif with
          spi := s.pif.spi.set k
            ⟨none, false, match (s.pif.spi.get k).pending with | some r => r.bytes | none => [0#8]⟩ } })) ∧
  (∀ (dt : Delay) (s : State),
      ((s.tick dt).frameGap = true → s.pif.uart.held.length < 8 →
        exec (.portTFrameGap dt) s = .next { s.tick dt with pif := { s.pif with
          uart := { s.pif.uart with rx := none, held := s.pif.uart.held ++ [⟨0#8, .refused .badFrame⟩] } } }) ∧
      (s.pif.uart.rx.isSome = true → s.pif.uart.held.length < 8 →
        exec (.portTFramingError dt) s = .next { s.tick dt with pif := { s.pif with
          uart := { s.pif.uart with rx := none, held := s.pif.uart.held ++ [⟨0#8, .refused .badFrame⟩] } } }) ∧
      ((s.tick dt).frameGap = true → 8 ≤ s.pif.uart.held.length →
        exec (.portTFrameGap dt) s = .next { s.tick dt with pif := { s.pif with
          uart := { s.pif.uart with rx := none } } }) ∧
      (s.pif.uart.rx.isSome = true → 8 ≤ s.pif.uart.held.length →
        exec (.portTFramingError dt) s = .next { s.tick dt with pif := { s.pif with
          uart := { s.pif.uart with rx := none } } }) ∧
      (s.pif.uart.rx = none → exec (.portTFramingError dt) s = .next (s.tick dt)) ∧
      (8 ≤ s.pif.uart.held.length →
        exec (.portTFrameDropped dt) s = .next { s.tick dt with pif := { s.pif with
          uart := { s.pif.uart with rx := none } } }) ∧
      (∀ r l, s.pif.uart.held = r :: l →
        exec (.portTResponseSent dt) s = .next { s.tick dt with pif := { s.pif with
          uart := { s.pif.uart with held := l, out := r.bytes } } }))

/-! ## The judgement of a command (R183, R184) -/

/-- R184: the ports of every command, and NOT_PERMITTED on any other; a STAGE that names no parameter passes the
check and is refused with BAD_ARGUMENT. That a STAGE whose payload has not 4 bytes names no parameter, and so passes
the check, is the model's choice, log entry 19. Of an SPI port with no transaction begun the answer rests on log
entry 5. -/
def Obligations.PortsOfCommands : Prop :=
  (∀ l, ∀ c ∈ [Command.demand, .resumeElectric, .clearPassthrough, .jointReset, .discardBrake],
    ∀ p, permitted p c l = true ↔ p = .a ∨ p = .b) ∧
  (∀ l, ∀ c ∈ [Command.channelRestore, .clearFirst, .commitBrake], ∀ p, permitted p c l = true ↔ p = .a) ∧
  (∀ l, ∀ p, permitted p .confirmBrake l = true ↔ p = .b) ∧
  (∀ l n v, readStage l = some (.brake n, v) → ∀ p, permitted p .stage l = true ↔ p = .a) ∧
  (∀ l n v, readStage l = some (.tyre n, v) → ∀ p, permitted p .stage l = true ↔ p = .a ∨ p = .t) ∧
  (∀ l, ∀ c ∈ [Command.commitTyre, .liftRequest, .learn, .unbind, .tyreAckSet, .tyreAckClear, .clearInactive],
    ∀ p, permitted p c l = true ↔ p = .a ∨ p = .t) ∧
  (∀ l, ∀ c ∈ [Command.calOpen, .calCapture, .calApply, .calRevert, .calClose, .snapshotInterval],
    ∀ p, permitted p c l = true ↔ p = .t) ∧
  (∀ l, ∀ c ∈ [Command.readRecord, .identify, .subscribeSet, .subscribeClear, .takeEvents, .peekEvents, .portReset],
    ∀ p, permitted p c l = true) ∧
  (∀ dt p c g l s, s.discards p = false → permitted p c l = false →
    ∃ t, exec (Command.instr c dt p g l) s = .next t ∧ TurnedAway dt p c (.refused .notPermitted) s t) ∧
  (∀ dt p g l s, s.discards p = false → guardOk g s = true → readStage l = none →
    ∃ t, exec (.stage dt p g l) s = .next t ∧ TurnedAway dt p .stage (.refused .badArgument) s t)

/-- R183: a permitted command whose guard finds the other level is answered GUARD_FALSE; one whose payload is too
short or too long is refused with BAD_ARGUMENT; neither has an effect. That the length is judged before the state of
the owning block is the model's choice, log entry 40. A frame on port T is discarded while 8 responses are held
(R182). Of an SPI port with no transaction begun the answer rests on log entry 5. -/
def Obligations.CommandsTurnedAway : Prop :=
  ∀ (dt : Delay) (p : Port) (c : Command) (g : Option Guard) (l : List Byte) (s : State),
    (s.discards p = false → permitted p c l = true → guardOk g s = false →
      ∃ t, exec (Command.instr c dt p g l) s = .next t ∧ TurnedAway dt p c .guardFalse s t) ∧
    (accepted p c g l s = true → l.length ≠ Command.payloadLength c →
      ∃ t, exec (Command.instr c dt p g l) s = .next t ∧ TurnedAway dt p c (.refused .badArgument) s t) ∧
    (s.discards p = true →
      exec (Command.instr c dt p g l) s = .next { s.tick dt with pif := { s.pif with
        uart := { s.pif.uart with rx := none } } })

/-! ## Records and events (R187 to R191) -/

/-- R188, READ_RECORD and IDENTIFY: a record that the kind, the index and the start number select is answered as it
stands; nothing changes but SNAPSHOT_READY, which a read of SNAPSHOT from port T sets false. Any other kind, index
or start number is refused with BAD_ARGUMENT. IDENTIFY answers its four bytes. R188: the parts of a record hold its
numbers whole and in order, and none is longer than 58 bytes. R187, R188: the kind codes are 1 to 22, INPUT has the
indexes 0 to 10, WHEEL 0 to 5, TYRE 0 to 11, PROFILE and CHANNEL 0 to 3, CONFIG_ACTIVE and CONFIG_STAGED 0 and 1,
and every other kind 0 alone; every record has an answer for start number 0. Of an SPI port with no transaction
begun the answer rests on log entry 5. -/
def Obligations.RecordsAreAnswered : Prop :=
  ((∀ (dt : Delay) (p : Port) (g : Option Guard) (kind index hi lo : Byte) (s : State),
      accepted p .readRecord g [kind, index, hi, lo] s = true →
      (∀ bytes, (record (s.tick dt) kind.toNat index.toNat).bind (Rec.payload (256 * hi.toNat + lo.toNat)) =
          some bytes →
        ∃ t, exec (.readRecord dt p g [kind, index, hi, lo]) s = .next t ∧
          Answered p ⟨24#8, .done bytes⟩ s t ∧ Changes dt [.pif] s t ∧
          (p = .t ∧ kind = 21#8 → t.pif.snapshotReady = false ∧
            t.pif = { s.pif with
              queues := t.pif.queues, spi := t.pif.spi, uart := t.pif.uart, snapshotReady := false }) ∧
          (¬(p = .t ∧ kind = 21#8) → TimersKept s t ∧ QueuesKept s t)) ∧
      ((record (s.tick dt) kind.toNat index.toNat).bind (Rec.payload (256 * hi.toNat + lo.toNat)) = none →
        ∃ t, exec (.readRecord dt p g [kind, index, hi, lo]) s = .next t ∧
          TurnedAway dt p .readRecord (.refused .badArgument) s t)) ∧
    ∀ (dt : Delay) (p : Port) (g : Option Guard) (s : State), accepted p .identify g [] s = true →
      ∃ t, exec (.identify dt p g []) s = .next t ∧
        TurnedAway dt p .identify (.done [0x5C#8, 0x02#8, 0x64#8, 3#8]) s t) ∧
  (∀ l : List (List Byte), (∀ x ∈ l, x.length ≤ 58) →
      (packParts [] l).flatten = l.flatten ∧ ∀ x ∈ packParts [] l, x.length ≤ 58) ∧
  (∀ (s : State) (kind index : Nat),
      ((record s kind index).isSome = true ↔
        (kind = 1 ∧ index ≤ 10) ∨ (kind = 2 ∧ index ≤ 5) ∨ (kind = 3 ∧ index ≤ 11) ∨
        (kind = 7 ∧ index ≤ 3) ∨ (kind = 12 ∧ index ≤ 3) ∨ (kind = 18 ∧ index ≤ 1) ∨ (kind = 19 ∧ index ≤ 1) ∨
        (index = 0 ∧ (4 ≤ kind ∧ kind ≤ 6 ∨ 8 ≤ kind ∧ kind ≤ 11 ∨ 13 ≤ kind ∧ kind ≤ 17 ∨ 20 ≤ kind ∧ kind ≤ 22))) ∧
      ∀ r, record s kind index = some r → (Rec.payload 0 r).isSome = true)

/-- R189, SUBSCRIBE_SET and SUBSCRIBE_CLEAR: the named bits of the port's two masks are set or cleared, the masks
are answered, and the queues of all ports stay; each mask is a number of 4 bytes, most significant first, and one
with a bit above 19 is refused with BAD_ARGUMENT. R190, TAKE_EVENTS and PEEK_EVENTS: LOST, the number of entries and
the oldest entries up to the least of n, 8 and the queue's length are answered; TAKE_EVENTS removes them and clears
LOST, PEEK_EVENTS changes nothing; an n above 16 is refused with BAD_ARGUMENT. Of an SPI port with no transaction
begun the answer rests on log entry 5. -/
def Obligations.EventQueuesAreServed : Prop :=
  (∀ (dt : Delay) (p : Port) (g : Option Guard) (l : List Byte) (rise fall : BitVec 20) (s : State),
      readMasks l = some (rise, fall) →
      (accepted p .subscribeSet g l s = true →
        ∃ t, exec (.subscribeSet dt p g l) s = .next t ∧
          Done p .subscribeSet (.done (bytes4 ((s.pif.queues.get p).riseMask ||| rise).toNat ++
            bytes4 ((s.pif.queues.get p).fallMask ||| fall).toNat)) s t ∧
          t.pif.queues = s.pif.queues.set p { s.pif.queues.get p with
            riseMask := (s.pif.queues.get p).riseMask ||| rise
            fallMask := (s.pif.queues.get p).fallMask ||| fall } ∧
          Changes dt [.pif] s t) ∧
      (accepted p .subscribeClear g l s = true →
        ∃ t, exec (.subscribeClear dt p g l) s = .next t ∧
          Done p .subscribeClear (.done (bytes4 ((s.pif.queues.get p).riseMask &&& ~~~rise).toNat ++
            bytes4 ((s.pif.queues.get p).fallMask &&& ~~~fall).toNat)) s t ∧
          t.pif.queues = s.pif.queues.set p { s.pif.queues.get p with
            riseMask := (s.pif.queues.get p).riseMask &&& ~~~rise
            fallMask := (s.pif.queues.get p).fallMask &&& ~~~fall } ∧
          Changes dt [.pif] s t)) ∧
  (∀ (dt : Delay) (p : Port) (g : Option Guard) (r3 r2 r1 r0 f3 f2 f1 f0 : Byte) (s : State),
      let l := [r3, r2, r1, r0, f3, f2, f1, f0]
      let within := r3 = 0#8 ∧ r2.toNat ≤ 15 ∧ f3 = 0#8 ∧ f2.toNat ≤ 15
      (within → ∃ rise fall, readMasks l = some (rise, fall) ∧
        rise.toNat = 65536 * r2.toNat + 256 * r1.toNat + r0.toNat ∧
        fall.toNat = 65536 * f2.toNat + 256 * f1.toNat + f0.toNat) ∧
      (¬within → accepted p .subscribeSet g l s = true →
        ∃ t, exec (.subscribeSet dt p g l) s = .next t ∧
          TurnedAway dt p .subscribeSet (.refused .badArgument) s t) ∧
      (¬within → accepted p .subscribeClear g l s = true →
        ∃ t, exec (.subscribeClear dt p g l) s = .next t ∧
          TurnedAway dt p .subscribeClear (.refused .badArgument) s t)) ∧
  (∀ (dt : Delay) (p : Port) (g : Option Guard) (n : Byte) (s : State),
      let q := s.pif.queues.get p
      let l := q.queue.take (min n.toNat 8)
      let answer := [if q.lost then 1#8 else 0#8, byteOf l.length] ++ l.flatMap entryBytes
      (accepted p .takeEvents g [n] s = true → n.toNat ≤ 16 →
        ∃ t, exec (.takeEvents dt p g [n]) s = .next t ∧ Done p .takeEvents (.done answer) s t ∧
          t.pif.queues = s.pif.queues.set p { q with queue := q.queue.drop (min n.toNat 8), lost := false } ∧
          Changes dt [.pif] s t) ∧
      (accepted p .peekEvents g [n] s = true → n.toNat ≤ 16 →
        ∃ t, exec (.peekEvents dt p g [n]) s = .next t ∧ TurnedAway dt p .peekEvents (.done answer) s t) ∧
      (accepted p .takeEvents g [n] s = true → 16 < n.toNat →
        ∃ t, exec (.takeEvents dt p g [n]) s = .next t ∧
          TurnedAway dt p .takeEvents (.refused .badArgument) s t) ∧
      (accepted p .peekEvents g [n] s = true → 16 < n.toNat →
        ∃ t, exec (.peekEvents dt p g [n]) s = .next t ∧ TurnedAway dt p .peekEvents (.refused .badArgument) s t))

/-- R191, SNAPSHOT_INTERVAL and SNAPSHOT_TIMER_EXPIRY: the interval is rounded down to a multiple of 100 and capped
at 30000, is answered, and stops or starts the timer; an expiry composes the record, makes it ready and moves the
timer on by one interval. That the timer moves on from the deadline that has passed is the model's choice, log entry
32. Of an SPI port with no transaction begun the answer rests on log entry 5. -/
def Obligations.SnapshotsRun : Prop :=
  (∀ (dt : Delay) (p : Port) (g : Option Guard) (hi lo : Byte) (s : State),
    accepted p .snapshotInterval g [hi, lo] s = true →
    let v := 256 * hi.toNat + lo.toNat
    let n := min 30000 (v - v % 100)
    ∃ t, exec (.snapshotInterval dt p g [hi, lo]) s = .next t ∧
      Answered p ⟨23#8, .done (bytes2 n)⟩ s t ∧
      t.pif = { s.pif with
        spi := t.pif.spi
        uart := t.pif.uart
        interval := n
        nextSnapshot := if n = 0 then none else some (after (s.tick dt).now n) } ∧
      Changes dt [.pif] s t) ∧
  ∀ (dt : Delay) (s : State) (d : Stamp),
    s.pif.nextSnapshot = some d → reached (s.tick dt).now d = true →
    ∃ t, exec (.snapshotTimerExpiry dt) s = .next t ∧
      t.pif = { s.pif with
        queues := t.pif.queues
        snapshot := some (composeSnapshot (s.tick dt))
        snapshotReady := true
        nextSnapshot := some (after d s.pif.interval) } ∧
      Changes dt [.pif] s t

/-- R193, PORT_RESET: the port's masks, queue and LOST flag are cleared, what it held of responses is dropped and
DONE stands in its place. On port A or B the port's votes are withdrawn, a FRESH demand becomes STALE and a
joint-reset window of that port closes; on port T a frame in reception is abandoned, an open calibration session is
aborted and a learn opened from port T is cancelled. The snapshot timer and record stay. On port T the responses
held before are dropped with it: the model's choice, log entry 18. Of an SPI port with no transaction begun the
answer rests on log entry 5. -/
def Obligations.PortResetActs : Prop :=
  ∀ (dt : Delay) (p : Port) (g : Option Guard) (s : State),
    accepted p .portReset g [] s = true → noCommit s = true →
    ∃ t, exec (.portReset dt p g []) s = .next t ∧
      t.pif.queues.get p = ⟨0, 0, [], false⟩ ∧ t.pif.interval = s.pif.interval ∧
      t.pif.nextSnapshot = s.pif.nextSnapshot ∧ t.pif.snapshot = s.pif.snapshot ∧
      t.pif.snapshotReady = s.pif.snapshotReady ∧
      (∀ k, p.controller = some k →
        (t.pif.spi.get k).pending = some ⟨30#8, .done []⟩ ∧ t.pif.spi.get k.other = s.pif.spi.get k.other ∧
        t.pif.uart = s.pif.uart ∧
        t.pif.window = s.pif.window.filter (fun w => w.port != k) ∧
        (t.ctrl k).resumeVote = false ∧ (t.ctrl k).clearVote = false ∧
        (t.ctrl k).demand = (s.ctrl k).demand ∧ (t.ctrl k).arrival = (s.ctrl k).arrival ∧
        (t.ctrl k).fresh = (if (s.ctrl k).fresh = .fresh then .stale else (s.ctrl k).fresh) ∧
        ((s.ctrl k).fresh = .fresh → (t.ctrl k).deadline = none) ∧
        (t.ctrl k.other).demand = (s.ctrl k.other).demand ∧ (t.ctrl k.other).fresh = (s.ctrl k.other).fresh ∧
        t.icu = s.icu ∧ t.cfs = s.cfs ∧ TyresKept s t) ∧
      (p = .t →
        t.pif.uart = { s.pif.uart with rx := none, held := [⟨30#8, .done []⟩] } ∧ t.pif.spi = s.pif.spi ∧
        t.pif.window = s.pif.window ∧
        t.leu = (if s.leu.sessionOpen then
          { s.leu with
            sessionOpen := false
            captures := .all ⟨none, none⟩
            lastEnd := .aborted
            lastEndTime := some (s.tick dt).now }
          else s.leu) ∧
        t.ttr = (match s.ttr.learn.slot with
          | some x => if x.port = .t then
              { s.ttr with learn := ⟨none, .cancelled, some x.position, none, some (s.tick dt).now⟩ } else s.ttr
          | none => s.ttr) ∧
        Changes dt [.pif, .leu, .ttr] s t)

/-! ## Joint reset (R192) -/

/-- R192, JOINT_RESET and JOINT_RESET_WINDOW_CLOSE: a first request opens the window for 100 ms; the same port's
next changes nothing; at the closing time the window closes and nothing else happens. R192 with R24, R54, R70, R82,
R100, R116, R143, R159, R171, R180 and R194: the other port's JOINT_RESET in an open window is answered DONE and
takes the joint reset: the inputs and wheel ends settle, the demand is PASSTHROUGH, every channel is released, the
sensor loads, the main load and the reference speed are LOST and the lift load is as the kept lift state gives, an
open calibration session ends ABORTED, a PENDING commit ends with RESET, an axle RAISING or UP comes down, and the
rest of the lift record, the tyre table but for its deadlines and drag timers, the active sets, the store, the
bindings and the calibration stay; the ports keep their masks. The active fault set holds just the faults whose
state the owners keep; the first-fault record, the list and OVERRUN are kept, an entry being active again, counted
once more, where its pair is raised again. The model's choices: the snapshot record emptied, and the JOINT_RESET
response known by its echo (log entry 30); STORE_CHECK between the first commit and its writes (log entry 37); the
levels of the open-wire indications and of the push-button and the button's running time, which stay (log entry 12);
the wheel ends' latest edge count at 0 and both time counters running on (log entry 13). Of an SPI port with no
transaction begun the answer rests on log entry 5. -/
def Obligations.JointResetRuns : Prop :=
  ((∀ (dt : Delay) (p : Port) (k : Controller) (g : Option Guard) (s : State),
      accepted p .jointReset g [] s = true → p.controller = some k →
      (s.pif.window = none →
        ∃ t, exec (.jointReset dt p g []) s = .next t ∧ Answered p ⟨4#8, .done []⟩ s t ∧
          t.pif = { s.pif with spi := t.pif.spi, window := some ⟨k, after (s.tick dt).now 100⟩ } ∧
          Changes dt [.pif] s t) ∧
      (∀ w, s.pif.window = some w → w.port = k →
        ∃ t, exec (.jointReset dt p g []) s = .next t ∧ TurnedAway dt p .jointReset (.done []) s t)) ∧
    ∀ (dt : Delay) (s : State) (w : JointWindow), s.pif.window = some w → reached (s.tick dt).now w.closes = true →
      exec (.jointResetWindowClose dt) s = .next { s.tick dt with pif := { s.pif with window := none } }) ∧
  (∀ (dt : Delay) (p : Port) (k : Controller) (g : Option Guard) (s : State) (w : JointWindow),
      accepted p .jointReset g [] s = true → p.controller = some k → s.pif.window = some w → w.port ≠ k →
      ∃ t, exec (.jointReset dt p g []) s = .next t ∧ t.clock = s.clock.advance dt ∧ t.pending = s.pending ∧
        (let now := (s.tick dt).now
        let rising := s.lac.state == .raising || s.lac.state == .up
        let lift : Marked := if s.lac.state = .down then ⟨0, .lost⟩ else ⟨0, .valid⟩
        let again := fun (x : FaultPair) => match x with
          | .tyreFlat w => (s.wheelTyre w).cond == .flat
          | .brakeDrag w => (s.wheelTyre w).dragFlag
          | .liftTimeout => s.lac.timeoutFlag
          | .coilOpen k => (s.coil k).status == .openCircuit
          | .coilShort k => (s.coil k).status == .short
          | .rollUnavailable => s.brake.rollEnable
          | .unconfigured => s.cfs.unconfigured
          | .storeCheck x => (s.sect x).state == .defaulted || ((s.sect x).state == .blank && !s.cfs.unconfigured)
          | _ => false
        (t.pif.spi.get k).pending = some ⟨4#8, .done []⟩ ∧
        t.pif.spi.get k.other =
          { s.pif.spi.get k.other with pending := (s.pif.spi.get k.other).pending.filter (fun r => r.echo == 4#8) } ∧
        t.pif.uart.held = [] ∧ t.pif.uart.rx = none ∧
        t.pif.window = none ∧ t.pif.interval = 0 ∧ t.pif.nextSnapshot = none ∧ t.pif.snapshot = none ∧
        t.pif.snapshotReady = false ∧
        (∀ q, (t.pif.queues.get q).riseMask = (s.pif.queues.get q).riseMask ∧
          (t.pif.queues.get q).fallMask = (s.pif.queues.get q).fallMask) ∧
        (∀ i, t.input i =
          ⟨.settling, (s.input i).filtered, (s.input i).last, .inRange, [], .none, .none, none, none, now⟩) ∧
        (∀ w, t.wheel w = ⟨.settling, 0, 0, 0, none, none, none, 0, (s.wheel w).openWire,
          if (s.wheel w).openWire then some (after now s.brake.inHoldTime) else none, none⟩) ∧
        t.icu.supplyLow = false ∧ t.icu.lowTimer = none ∧ t.icu.clearTimer = none ∧
        t.dar = Dar.reset s.cfs.brakeGood ∧
        (∀ c, t.chan c =
          { sp := ⟨0, .valid, false, .inhibit, none, none, none, none, none, none, none, now⟩
            state := .passthrough
            latched := ⟨[CoilFn.inlet, .exhaust, .backup].any (fun f => (s.coil (.of c f)).status != .ok), false, false⟩
            action := .release
            phase := .idle
            pLock := none
            ramp := none
            phaseDeadline := none
            held := none
            holdDeadline := none
            side := none
            trackAccum := 0
            trackSince := none
            slip := 0
            departPending := false
            episodes := (s.chan c).episodes }) ∧
        (∀ c f, (t.coil (.of c f)).commanded = false ∧ (t.coil (.of c f)).readback = false) ∧
        (if rising then (t.coil .lift).commanded = false ∧ (t.coil .lift).readback = false
          else t.coil .lift = s.coil .lift) ∧
        (∀ j, (t.coil j).status = (s.coil j).status ∧ (t.coil j).lastTest = (s.coil j).lastTest) ∧
        t.chc.patrol = s.chc.patrol ∧ t.chc.ref = ⟨0, .lost⟩ ∧ t.chc.lastCandidate = none ∧
        (∀ w, t.chc.slips.get w = 0) ∧
        t.leu =
          { s.leu with
            sensor := .all ⟨0, .lost⟩
            liveMain := ⟨0, .lost⟩
            liveLift := lift
            liveTotal := ⟨0, .lost⟩
            appMain := ⟨0, .lost⟩
            appLift := lift
            appTotal := ⟨0, .lost⟩
            fill := ⟨1024, .degraded⟩
            frozen := false
            release := none
            sessionOpen := false
            captures := .all ⟨none, none⟩
            lastEnd := if s.leu.sessionOpen then .aborted else s.leu.lastEnd
            lastEndTime := if s.leu.sessionOpen then some now else s.leu.lastEndTime } ∧
        t.lac =
          { s.lac with
            state := if rising then .lowering else s.lac.state
            deadline := if rising then some (after now s.brake.lowerTimeout) else s.lac.deadline
            autoTimer := none } ∧
        t.rsu =
          { state := if s.brake.rollEnable then .unavailable else .disabled
            causes := ⟨true, true, true⟩
            fillUsed := ⟨1024, .degraded⟩
            penalty := s.penalty
            aThr := rollThr s.brake 1024 s.penalty
            aProbe := probeThr s.brake (rollThr s.brake 1024 s.penalty)
            inner := none
            innerFloor := 0
            outerFloor := 0
            floors := .all 0
            probeDeadline := none
            lastProbeEnd := none
            quiet := none
            nextStep := none
            cause := none } ∧
        (∀ y, t.tyre y =
          if (s.tyre y).state = .awaiting ∨ (s.tyre y).state = .live then
            { s.tyre y with
              deadlineBase := some now, missingDeadline := some (after now s.tyreSet.missingTimeout) }
          else s.tyre y) ∧
        (∀ w, t.wheelTyre w =
          { s.wheelTyre w with drag := if s.hot w then .running now else .zero }) ∧
        t.ttr.rx = none ∧ t.ttr.gapDeadline = none ∧ t.ttr.strangers = s.ttr.strangers ∧
        t.ttr.accepted = s.ttr.accepted ∧ t.ttr.checkRejected = s.ttr.checkRejected ∧
        t.ttr.formatRejected = s.ttr.formatRejected ∧ t.ttr.strangerCount = s.ttr.strangerCount ∧
        (s.ttr.learn.slot = none → t.ttr.learn = s.ttr.learn) ∧
        (∀ x, s.ttr.learn.slot = some x → t.ttr.learn = ⟨none, .cancelled, some x.position, none, some now⟩) ∧
        t.cfs =
          { s.cfs with
            stagedBrake := s.cfs.brake
            stagedTyre := s.cfs.tyre
            commit := if s.cfs.commit.pending then
                ⟨false, false, s.cfs.commit.digest, none, .reset, some now⟩
              else s.cfs.commit } ∧
        (∀ x, t.faulted x = again x) ∧
        (∀ a ∈ t.flm.active, a.time = now ∧ a.severity = severityOf s.brake a.pair) ∧
        t.flm.warnLine = t.flm.active.any (fun a => a.severity != .note) ∧
        t.flm.severeLine = t.flm.active.any (fun a => a.severity == .severe) ∧
        (∀ r, s.flm.first = some r → t.flm.first = some r) ∧
        (s.flm.first = none →
          t.flm.first.map (fun r => (r.pair, r.time)) = t.flm.active.head?.map (fun a => (a.pair, now))) ∧
        (∀ r ∈ t.flm.entries, r.active = again r.pair) ∧ (s.flm.overrun = true → t.flm.overrun = true) ∧
        (t.flm.entries.length < 15 ∨ (∀ x, again x = true → ∃ r ∈ s.flm.entries, r.pair = x) →
          t.flm.overrun = s.flm.overrun ∧
          (∀ r ∈ s.flm.entries, (again r.pair = false → { r with active := false } ∈ t.flm.entries) ∧
            (again r.pair = true →
              { r with
                lastSeen := now
                count := if r.count < 255 then r.count + 1 else r.count
                active := true
                severity := severityOf s.brake r.pair } ∈ t.flm.entries)) ∧
          (∀ x, again x = true → (∀ r ∈ s.flm.entries, r.pair ≠ x) →
            ⟨x, now, now, 1, true, severityOf s.brake x⟩ ∈ t.flm.entries))))

/-! ## Faults (chapter 8) -/

/-- R166, CLEAR_FIRST: from port A it is answered DONE and empties the first-fault record, full or empty, and
touches nothing else; a raise of a pair that is in the set leaves it empty, the next raise that adds a pair fills
it. R168, CLEAR_INACTIVE: from port A and port T it is answered DONE, removes every inactive entry of the next-fault
list, keeps the active ones in their order, clears OVERRUN, so that LOG_OVERRUN is false, and touches neither the
active fault set nor the first-fault record. Of an SPI port with no transaction begun the answer rests on log entry
5. -/
def Obligations.FaultRecordsAreEmptied : Prop :=
  (∀ (dt : Delay) (p : Port) (g : Option Guard) (s : State), accepted p .clearFirst g [] s = true →
      p = .a ∧ ∃ t, exec (.clearFirst dt p g []) s = .next t ∧ Done p .clearFirst (.done []) s t ∧ QueuesKept s t ∧
        t.flm = { s.flm with first := none } ∧ Changes dt [.flm, .pif] s t ∧
        ∀ x, (t.faulted x = true → (raise x t).flm.first = none) ∧
          (t.faulted x = false → ∃ r, (raise x t).flm.first = some r ∧ r.pair = x ∧ r.time = t.now)) ∧
  (∀ (dt : Delay) (p : Port) (g : Option Guard) (s : State),
      (p = .a ∨ p = .t) → s.discards p = false → guardOk g s = true →
      ∃ t, exec (.clearInactive dt p g []) s = .next t ∧ Done p .clearInactive (.done []) s t ∧
        t.flm.entries = s.flm.entries.filter (fun r => r.active) ∧ t.flm.overrun = false ∧
        holds .logOverrun t = false ∧ t.flm.active = s.flm.active ∧ t.flm.first = s.flm.first ∧
        t.flm.warnLine = s.flm.warnLine ∧ t.flm.severeLine = s.flm.severeLine ∧
        (s.flm.overrun = false → QueuesKept s t) ∧ Changes dt [.flm, .pif] s t)

/-- R162, R163, R165, R167: a raise that adds a pair stamps it, fills an empty first-fault record, gets its entry in
the next-fault list and judges the lines; a raise of a pair in the set changes nothing; a clear removes the pair,
makes its entry inactive and judges the lines. R167: a raise whose pair has an entry updates it in place, with its
count one higher up to 255; a pair without an entry gets one at the end of the list, and in a list of 15 the oldest
inactive entry leaves for it, or, where all are active, the oldest, which sets OVERRUN. No other entry changes its
place or its fields. -/
def Obligations.RaiseAndClear : Prop :=
  ∀ (x : FaultPair) (s : State),
    (s.faulted x = true → raise x s = s) ∧
    (s.faulted x = false →
      (raise x s).flm.active = s.flm.active ++ [⟨x, s.now, severityOf s.brake x⟩] ∧
      (s.flm.first = none →
        (raise x s).flm.first = some ⟨x, s.now, severityOf s.brake x, s.context⟩) ∧
      (s.flm.first ≠ none → (raise x s).flm.first = s.flm.first) ∧
      (∃ r ∈ (raise x s).flm.entries, r.pair = x ∧ r.lastSeen = s.now ∧ r.active = true ∧
        r.severity = severityOf s.brake x) ∧
      ((raise x s).flm.warnLine = true ↔ ∃ a ∈ (raise x s).flm.active, a.severity ≠ .note) ∧
      ((raise x s).flm.severeLine = true ↔ ∃ a ∈ (raise x s).flm.active, a.severity = .severe)) ∧
    (s.faulted x = false → clear x s = s) ∧
    (clear x s).faulted x = false ∧
    (∀ y, y ≠ x → (clear x s).faulted y = s.faulted y ∧ (raise x s).faulted y = s.faulted y) ∧
    (s.faulted x = true → ∀ r ∈ (clear x s).flm.entries, r.pair = x → r.active = false) ∧
    (s.faulted x = false →
      let l := s.flm.entries
      let severity := severityOf s.brake x
      let new : FaultEntry := ⟨x, s.now, s.now, 1, true, severity⟩
      ((∃ r ∈ l, r.pair = x) →
        (raise x s).flm.overrun = s.flm.overrun ∧
        (raise x s).flm.entries = l.map fun r =>
          if r.pair = x then
            ⟨x, r.firstSeen, s.now, if r.count < 255 then r.count + 1 else r.count, true, severity⟩
          else r) ∧
      ((∀ r ∈ l, r.pair ≠ x) → l.length < 15 →
        (raise x s).flm.entries = l ++ [new] ∧ (raise x s).flm.overrun = s.flm.overrun) ∧
      (∀ before r later, (∀ r ∈ l, r.pair ≠ x) → 15 ≤ l.length → l = before ++ r :: later →
        (∀ e ∈ before, e.active = true) → r.active = false →
        (raise x s).flm.entries = before ++ later ++ [new] ∧ (raise x s).flm.overrun = s.flm.overrun) ∧
      ((∀ r ∈ l, r.pair ≠ x) → 15 ≤ l.length → (∀ e ∈ l, e.active = true) →
        (raise x s).flm.entries = l.drop 1 ++ [new] ∧ (raise x s).flm.overrun = true)) ∧
    (s.faulted x = true →
      (clear x s).flm.active = s.flm.active.filter (fun a => a.pair != x) ∧
      (clear x s).flm.entries = s.flm.entries.map (fun r => if r.pair = x then { r with active := false } else r) ∧
      (clear x s).flm.overrun = s.flm.overrun ∧ (clear x s).flm.first = s.flm.first ∧
      ((clear x s).flm.warnLine = true ↔ ∃ a ∈ s.flm.active, a.pair ≠ x ∧ a.severity ≠ .note) ∧
      ((clear x s).flm.severeLine = true ↔ ∃ a ∈ s.flm.active, a.pair ≠ x ∧ a.severity = .severe))

/-! ## Configuration (chapter 9) -/

/-- R175, COMMIT_BRAKE: BUSY while PENDING; a failed cross-limit is BAD_ARGUMENT and leaves the state; where all six
hold the digest of the 92 staged values is answered and kept, the commit is PENDING and unconfirmed, and it expires
60 s later. The CRC register takes each value's 16 bits, most significant first. Of an SPI port with no transaction
begun the answer rests on log entry 5. -/
def Obligations.CommitBrakeBegins : Prop :=
  ∀ (dt : Delay) (p : Port) (g : Option Guard) (s : State), accepted p .commitBrake g [] s = true →
    let q := s.cfs.stagedBrake
    let limits := q.value 54 < q.value 53 ∧ q.value 26 ≥ q.value 25 + 1000 ∧ q.value 20 ≥ q.value 19 + 1000 ∧
      q.value 39 ≥ q.value 38 + 1000 ∧ q.value 41 ≥ q.value 40 + 1000 ∧ q.value 63 ≤ q.value 62
    let digest := (((List.range 92).map fun n => BitVec.ofInt 16 (q.value n)).flatMap fun v =>
        (List.range 16).map fun i => v.getLsbD (15 - i)).foldl
      (fun (r : BitVec 16) b => if r.getLsbD 15 != b then (r <<< 1) ^^^ 0x1021#16 else r <<< 1) 0xFFFF#16
    (s.cfs.commit.pending = true →
      ∃ t, exec (.commitBrake dt p g []) s = .next t ∧ TurnedAway dt p .commitBrake (.refused .busy) s t) ∧
    (s.cfs.commit.pending = false → ¬limits →
      ∃ t, exec (.commitBrake dt p g []) s = .next t ∧
        TurnedAway dt p .commitBrake (.refused .badArgument) s t) ∧
    (s.cfs.commit.pending = false → limits →
      ∃ t, exec (.commitBrake dt p g []) s = .next t ∧
        Done p .commitBrake (.done (bytes2 digest.toNat)) s t ∧
        t.cfs = { s.cfs with commit := { s.cfs.commit with
          pending := true
          confirmed := false
          digest := some digest
          deadline := some (after (s.tick dt).now 60000) } } ∧
        holds .commitPending t = true ∧ Changes dt [.cfs, .pif] s t)

/-- R173, R29, STAGE: a brake parameter in its range is staged unless a commit is PENDING; a tyre parameter in its
range is staged where its profile then fits; everything else is refused and changes nothing. The order of the checks
and the range of a marker value are the model's choice, log entry 19. Of an SPI port with no transaction begun the
answer rests on log entry 5. -/
def Obligations.StageWritesOneParameter : Prop :=
  ∀ (dt : Delay) (p : Port) (g : Option Guard) (l : List Byte) (n : Nat) (v : Int) (s : State),
    accepted p .stage g l s = true →
    (readStage l = some (.brake n, v) →
      (s.cfs.commit.pending = true →
        ∃ t, exec (.stage dt p g l) s = .next t ∧ TurnedAway dt p .stage (.refused .busy) s t) ∧
      (s.cfs.commit.pending = false → brakeInRange n v = false →
        ∃ t, exec (.stage dt p g l) s = .next t ∧ TurnedAway dt p .stage (.refused .badArgument) s t) ∧
      (s.cfs.commit.pending = false → brakeInRange n v = true →
        ∃ t, exec (.stage dt p g l) s = .next t ∧ Done p .stage (.done []) s t ∧ QueuesKept s t ∧
          t.cfs = { s.cfs with stagedBrake := t.cfs.stagedBrake } ∧
          (∀ m, t.cfs.stagedBrake.value m = if m = n then v else s.cfs.stagedBrake.value m) ∧
          Changes dt [.cfs, .pif] s t)) ∧
    (readStage l = some (.tyre n, v) →
      (tyreInRange s.cfs.stagedTyre n v = false →
        ∃ t, exec (.stage dt p g l) s = .next t ∧ TurnedAway dt p .stage (.refused .badArgument) s t) ∧
      (tyreInRange s.cfs.stagedTyre n v = true → profileFits (s.cfs.stagedTyre.write n v) n = false →
        ∃ t, exec (.stage dt p g l) s = .next t ∧ TurnedAway dt p .stage (.refused .fieldBounds) s t) ∧
      (tyreInRange s.cfs.stagedTyre n v = true → profileFits (s.cfs.stagedTyre.write n v) n = true →
        ∃ t, exec (.stage dt p g l) s = .next t ∧ Done p .stage (.done []) s t ∧ QueuesKept s t ∧
          t.cfs = { s.cfs with stagedTyre := t.cfs.stagedTyre } ∧
          (∀ m, t.cfs.stagedTyre.value m = if m = n then v else s.cfs.stagedTyre.value m) ∧
          Changes dt [.cfs, .pif] s t))

/-- R176, R177, CONFIRM_BRAKE: WRONG_STATE where no commit is PENDING; another digest is BAD_ARGUMENT and changes
nothing; the commit's digest is answered DONE and confirms it, and where standstill holds and E is 0 the staged set
becomes active in the same event. R176, R177, DISCARD_BRAKE and COMMIT_EXPIRY: the commit ends with its outcome,
time and digest, and a discard makes the staged set equal to the active one. Of an SPI port with no transaction
begun the answer rests on log entry 5. -/
def Obligations.CommitIsConfirmedOrEnds : Prop :=
  (∀ (dt : Delay) (p : Port) (g : Option Guard) (hi lo : Byte) (s : State),
      accepted p .confirmBrake g [hi, lo] s = true →
      let given := BitVec.ofNat 16 (256 * hi.toNat + lo.toNat)
      (s.cfs.commit.pending = false →
        ∃ t, exec (.confirmBrake dt p g [hi, lo]) s = .next t ∧
          TurnedAway dt p .confirmBrake (.refused .wrongState) s t) ∧
      (s.cfs.commit.pending = true → s.cfs.commit.digest ≠ some given →
        ∃ t, exec (.confirmBrake dt p g [hi, lo]) s = .next t ∧
          TurnedAway dt p .confirmBrake (.refused .badArgument) s t) ∧
      (s.cfs.commit.pending = true → s.cfs.commit.digest = some given →
        ∃ t, exec (.confirmBrake dt p g [hi, lo]) s = .next t ∧ Done p .confirmBrake (.done []) s t ∧
          (¬(s.standstill = true ∧ s.dar.e.val = 0) →
            t.cfs = { s.cfs with commit := { s.cfs.commit with confirmed := true } } ∧ t.icu = s.icu ∧ t.dar = s.dar) ∧
          (s.standstill = true → s.dar.e.val = 0 →
            t.cfs.brake = s.cfs.stagedBrake ∧ t.cfs.brakeGood = true ∧ t.cfs.unconfigured = false ∧
            t.faulted .unconfigured = false ∧
            t.cfs.commit = ⟨false, false, some given, none, .applied, some (s.tick dt).now⟩ ∧
            ((t.sect .brakeConfig).dirty = true ∨
              t.cfs.write = some ⟨.brakeConfig, .brake s.cfs.stagedBrake⟩)))) ∧
  ((∀ (dt : Delay) (p : Port) (g : Option Guard) (s : State), accepted p .discardBrake g [] s = true →
      ∃ t, exec (.discardBrake dt p g []) s = .next t ∧ Done p .discardBrake (.done []) s t ∧
        t.cfs = { s.cfs with
          stagedBrake := s.cfs.brake
          commit := if s.cfs.commit.pending then
              ⟨false, false, s.cfs.commit.digest, none, .discarded, some (s.tick dt).now⟩
            else s.cfs.commit } ∧
        Changes dt [.cfs, .pif] s t) ∧
    ∀ (dt : Delay) (s : State) (d : Stamp),
      s.cfs.commit.pending = true → s.cfs.commit.deadline = some d → reached (s.tick dt).now d = true →
      ∃ t, exec (.commitExpiry dt) s = .next t ∧ LinesKept s t ∧
        t.cfs = { s.cfs with commit :=
          ⟨false, false, s.cfs.commit.digest, none, .expired, some (s.tick dt).now⟩ } ∧
        Changes dt [.cfs, .pif] s t)

/-- R174, R52, COMMIT_TYRE: refused where `low_crit_frac` is not below `low_warn_frac`; otherwise the staged tyre
set becomes active, TYRE_CONFIG is dirty or its write has begun, and a changed `missing_timeout` moves every
record's missing deadline, and a changed `learn_timeout` the deadline of an open learn; a deadline that has passed
expires at once. Of an SPI port with no transaction begun the answer rests on log entry 5. -/
def Obligations.CommitTyreApplies : Prop :=
  ∀ (dt : Delay) (p : Port) (g : Option Guard) (s : State), accepted p .commitTyre g [] s = true →
    let q := s.cfs.stagedTyre
    (q.lowWarnFrac ≤ q.lowCritFrac →
      ∃ t, exec (.commitTyre dt p g []) s = .next t ∧
        TurnedAway dt p .commitTyre (.refused .badArgument) s t) ∧
    (q.lowCritFrac < q.lowWarnFrac →
      ∃ t, exec (.commitTyre dt p g []) s = .next t ∧ Done p .commitTyre (.done []) s t ∧
        t.cfs.tyre = q ∧ t.cfs.stagedTyre = q ∧ t.cfs.brake = s.cfs.brake ∧ t.cfs.commit = s.cfs.commit ∧
        ((t.sect .tyreConfig).dirty = true ∨ t.cfs.write = some ⟨.tyreConfig, .tyre q⟩) ∧
        (q.missingTimeout = s.cfs.tyre.missingTimeout → t.ttr.tyres = s.ttr.tyres) ∧
        (∀ y b, q.missingTimeout ≠ s.cfs.tyre.missingTimeout → (s.tyre y).deadlineBase = some b →
          if reached (s.tick dt).now (after b q.missingTimeout) then
            (t.tyre y).state = .missing ∧ (t.tyre y).missingDeadline = none ∧ (t.tyre y).level = (s.tyre y).level
          else
            t.tyre y = { s.tyre y with missingDeadline := some (after b q.missingTimeout) }) ∧
        (s.ttr.learn.slot = none ∨ q.learnTimeout = s.cfs.tyre.learnTimeout → t.ttr.learn = s.ttr.learn) ∧
        (∀ x, s.ttr.learn.slot = some x → q.learnTimeout ≠ s.cfs.tyre.learnTimeout →
          t.ttr.learn =
            if reached (s.tick dt).now (after x.opened q.learnTimeout) then
              ⟨none, .failed, some x.position, none, some (after x.opened q.learnTimeout)⟩
            else { s.ttr.learn with slot := some { x with deadline := after x.opened q.learnTimeout } }) ∧
        Changes dt [.cfs, .ttr, .lac, .leu, .rsu, .channels, .chc, .flm, .pif] s t)

/-- R178, STORE_WRITE_END: a pass makes the section GOOD with the content written and clears STORE_CHECK, and the
next write begins on the first dirty section, in the order of R178; a fail raises STORE_CHECK and marks the section
dirty again, with every BLANK section, and the next write begins on the first section then dirty. The section begun
loses its flag, and its present content is taken. That the section's state stays after a failed write is the model's
choice, log entry 26. -/
def Obligations.StoreWriteEnds : Prop :=
  ∀ (dt : Delay) (s : State) (w : WriteRun), s.cfs.write = some w →
    let first := fun (d : Section → Bool) => [Section.brakeConfig, .tyreConfig, .calibration, .bindings].find? d
    let begun := fun (d : Section → Bool) (t : State) =>
      t.cfs.write = (first d).map (fun x => ⟨x, s.content x⟩) ∧
      ∀ x, (t.sect x).dirty = (d x && first d != some x)
    let kept := fun (t : State) => t.cfs.lastWriteTime = some (s.tick dt).now ∧
      t.cfs.brake = s.cfs.brake ∧ t.cfs.tyre = s.cfs.tyre ∧ t.cfs.stagedBrake = s.cfs.stagedBrake ∧
      t.cfs.stagedTyre = s.cfs.stagedTyre ∧ t.cfs.commit = s.cfs.commit ∧ LinesKept s t ∧
      Changes dt [.cfs, .flm, .pif] s t
    (∃ t, exec (.storeWriteEnd dt true) s = .next t ∧
      (t.sect w.sect).state = .good ∧ (t.sect w.sect).stored = .good w.content ∧
      t.faulted (.storeCheck w.sect) = false ∧ t.cfs.lastWrite = .pass ∧
      (∀ x, x ≠ w.sect → (t.sect x).state = (s.sect x).state ∧ (t.sect x).stored = (s.sect x).stored) ∧
      begun (fun x => (s.sect x).dirty) t ∧ kept t) ∧
    (∃ t, exec (.storeWriteEnd dt false) s = .next t ∧
      (t.sect w.sect).stored = .failing ∧ t.faulted (.storeCheck w.sect) = true ∧ t.cfs.lastWrite = .fail ∧
      (∀ x, (t.sect x).state = (s.sect x).state) ∧
      (∀ x, x ≠ w.sect → (t.sect x).stored = (s.sect x).stored) ∧
      begun (fun x => (s.sect x).dirty || x == w.sect || (s.sect x).state == .blank) t ∧ kept t)

/-- R177: the active brake set changes only by a hard reset, or because a confirmed commit is applied, and then it
is the set that was staged, and standstill holds. R177: E is 0 at the moment of application. From a state that meets
the invariants E is still 0 after the event, unless a new `agree_tol` then made the demands agree, which ends
HOLDING in ELECTRIC (R88, R89). -/
def Obligations.BrakeSetChangesByCommit : Prop :=
  (∀ (c : Instr) (s t : State), exec c s = .next t → c.delay.isSome = true → t.cfs.brake ≠ s.cfs.brake →
      s.cfs.commit.pending = true ∧ t.cfs.brake = s.cfs.stagedBrake ∧ t.cfs.commit.outcome = .applied ∧
      t.cfs.commit.pending = false ∧ t.cfs.commit.time = some t.now ∧ t.standstill = true ∧
      (s.cfs.commit.confirmed = true ∨ ∃ dt p g l, c = .confirmBrake dt p g l)) ∧
  (∀ (c : Instr) (s t : State), exec c s = .next t → c.delay.isSome = true → Inv s → t.cfs.brake ≠ s.cfs.brake →
      t.dar.e.val = 0 ∨
        (t.cfs.brake.agreeTol ≠ s.cfs.brake.agreeTol ∧ t.dar.mode = .electric ∧ t.dar.agree = true))

/-! ## Demand (chapter 4) -/

/-- R83, R85, R88, R89, DEMAND: the value, at most 1000, is stored with its time and its freshness deadline,
agreement is judged, and ELECTRIC and HOLDING follow it; every other mode stays. What else changes follows from E:
the inputs, the tyre records, the calibration and the configuration stay. R85: two FRESH demands agree when they
differ by at most the tolerance, and the agreed value is the ceiling of half their sum; any other two do not agree.
Of an SPI port with no transaction begun the answer rests on log entry 5. -/
def Obligations.DemandIsArbitrated : Prop :=
  (∀ (dt : Delay) (p : Port) (k : Controller) (g : Option Guard) (hi lo : Byte) (s : State),
      accepted p .demand g [hi, lo] s = true → p.controller = some k → noCommit s = true →
      ∃ t, exec (.demand dt p g [hi, lo]) s = .next t ∧ Done p .demand (.done []) s t ∧
        (t.ctrl k).demand = some (min (256 * hi.toNat + lo.toNat) 1000 : Nat) ∧
        (t.ctrl k).arrival = some (s.tick dt).now ∧ (t.ctrl k).fresh = .fresh ∧
        (t.ctrl k).deadline = some (after (s.tick dt).now s.brake.demandTimeout) ∧
        (t.ctrl k.other).demand = (s.ctrl k.other).demand ∧ (t.ctrl k.other).arrival = (s.ctrl k.other).arrival ∧
        (t.ctrl k.other).fresh = (s.ctrl k.other).fresh ∧ (t.ctrl k.other).deadline = (s.ctrl k.other).deadline ∧
        t.dar.agreed = agreement s.brake.agreeTol t.dar.ctrl.a t.dar.ctrl.b ∧
        t.dar.agree = t.dar.agreed.isSome ∧ t.dar.lastAgreed = t.dar.agreed.getD s.dar.lastAgreed ∧
        t.dar.mode = (if s.dar.mode = .electric ∨ s.dar.mode = .holding then
          (if t.dar.agree = true then .electric else .holding) else s.dar.mode) ∧
        (s.dar.mode = .electric → t.dar.agree = false →
          t.dar.holdDeadline = some (after (s.tick dt).now s.brake.holdLimit)) ∧
        (s.dar.mode = .holding → t.dar.agree = false → t.dar.holdDeadline = s.dar.holdDeadline) ∧
        t.icu = s.icu ∧ t.cfs = s.cfs ∧ t.leu.cal = s.leu.cal ∧ TyresKept s t) ∧
  ((∀ (tol a b : Int) (x y : Ctrl), x.fresh = .fresh → y.fresh = .fresh → x.demand = some a → y.demand = some b →
      ((agreement tol x y).isSome = true ↔ a - b ≤ tol ∧ b - a ≤ tol) ∧
      ∀ v, agreement tol x y = some v → a + b ≤ 2 * v ∧ 2 * v ≤ a + b + 1) ∧
    ∀ (tol : Int) (x y : Ctrl), x.fresh ≠ .fresh ∨ y.fresh ≠ .fresh → agreement tol x y = none)

/-- R91, RESUME_ELECTRIC: in SENSED the port's vote is recorded, and the resume window starts where both votes stand
and the demands agree; a running window is not restarted. In any other mode it is WRONG_STATE. R92,
RESUME_WINDOW_COMPLETE: the mode becomes ELECTRIC with its two faults cleared and the votes emptied, E is the larger
of the agreed value and PCL, and no channel is left in ANTILOCK. R92, R138: its converge request brings a channel
from REGULATE, CONVERGE or ANTILOCK to CONVERGE with HOLD, holding the measured pressure until `converge_timeout`,
its side taken from its setpoint, or to REGULATE where that setpoint is within `reg_band`, and leaves one in
SAFE_HOLD or INHIBITED in its state; that the setpoint is the one ELECTRIC has just published is the model's choice,
log entry 23. Of an SPI port with no transaction begun the answer rests on log entry 5. -/
def Obligations.ResumeEndsInElectric : Prop :=
  (∀ (dt : Delay) (p : Port) (k : Controller) (g : Option Guard) (s : State),
      accepted p .resumeElectric g [] s = true → p.controller = some k →
      (s.dar.mode ≠ .sensed →
        ∃ t, exec (.resumeElectric dt p g []) s = .next t ∧
          TurnedAway dt p .resumeElectric (.refused .wrongState) s t) ∧
      (s.dar.mode = .sensed →
        ∃ t, exec (.resumeElectric dt p g []) s = .next t ∧ Done p .resumeElectric (.done []) s t ∧
          QueuesKept s t ∧
          t.dar = { s.dar with
            ctrl := s.dar.ctrl.set k { s.ctrl k with resumeVote := true }
            resume := if (s.ctrl k.other).resumeVote = true ∧ s.dar.agree = true then
                some (s.dar.resume.getD ⟨(s.tick dt).now, after (s.tick dt).now s.brake.resumeWindow⟩)
              else none } ∧
          Changes dt [.dar, .pif] s t)) ∧
  (∀ (dt : Delay) (s : State) (w : ResumeRun) (x : Int),
      s.dar.mode = .sensed → s.dar.resume = some w → reached (s.tick dt).now w.complete = true →
      s.dar.agreed = some x → noCommit s = true →
      ∃ t, exec (.resumeWindowComplete dt) s = .next t ∧
        t.dar.mode = .electric ∧ t.dar.resume = none ∧ (∀ k, (t.ctrl k).resumeVote = false) ∧
        t.dar.e.val = max x s.pclValue ∧
        t.faulted (.demandStale .a) = false ∧ t.faulted (.demandStale .b) = false ∧
        t.faulted .demandDisagree = false ∧ (∀ c, (t.chan c).state ≠ .antilock) ∧
        t.clock = s.clock.advance dt ∧ t.pending = s.pending ∧ t.icu = s.icu ∧ t.cfs = s.cfs ∧ TyresKept s t ∧
        LinesKept s t) ∧
  (∀ (dt : Delay) (s : State) (w : ResumeRun) (c : Channel), Inv s → noCommit s = true →
      s.dar.mode = .sensed → s.dar.resume = some w → reached (s.tick dt).now w.complete = true →
      ∃ t, exec (.resumeWindowComplete dt) s = .next t ∧
        ((s.chan c).state = .regulate ∨ (s.chan c).state = .converge ∨ (s.chan c).state = .antilock →
          Converges (s.tick dt).now s.brake c (s.measured c).val (t.chan c).sp.value t) ∧
        ((s.chan c).state = .safeHold ∨ (s.chan c).state = .inhibited → (t.chan c).state = (s.chan c).state))

/-- R95, CLEAR_PASSTHROUGH: refused with WRONG_STATE unless its five conditions hold; the port's vote is recorded,
and with the other port's vote recorded the mode becomes SENSED and E the reading of PCL. Of an SPI port with no
transaction begun the answer rests on log entry 5. -/
def Obligations.ClearVoteIsRecorded : Prop :=
  ∀ (dt : Delay) (p : Port) (k : Controller) (g : Option Guard) (s : State),
    accepted p .clearPassthrough g [] s = true → p.controller = some k → noCommit s = true →
    let allowed := s.dar.mode = .passthrough ∧ s.faulted .supplyLow = false ∧ (s.reading .pcl).mark ≠ .lost ∧
      s.dar.startWait = false ∧ s.cfs.brakeGood = true
    (¬allowed →
      ∃ t, exec (.clearPassthrough dt p g []) s = .next t ∧
        TurnedAway dt p .clearPassthrough (.refused .wrongState) s t) ∧
    (allowed →
      ∃ t, exec (.clearPassthrough dt p g []) s = .next t ∧ Done p .clearPassthrough (.done []) s t ∧
        ((s.ctrl k).clearVote = true → t.dar = s.dar) ∧
        ((s.ctrl k).clearVote = false → (s.ctrl k.other).clearVote = false →
          t.dar = { s.dar with ctrl := s.dar.ctrl.set k { s.ctrl k with clearVote := true } }) ∧
        ((s.ctrl k).clearVote = false → (s.ctrl k.other).clearVote = true →
          t.dar.mode = .sensed ∧ t.dar.e = s.reading .pcl ∧ (t.ctrl k).clearVote = false ∧
          (t.ctrl k.other).clearVote = false) ∧
        t.icu = s.icu ∧ t.cfs = s.cfs ∧ TyresKept s t)

/-- R84, FRESHNESS_DEADLINE_EXPIRY: a FRESH demand becomes STALE with its deadline absent, its value and its arrival
stay, the demands no longer agree, and ELECTRIC becomes HOLDING. R90, HOLD_DEADLINE_EXPIRY: the hold ends in SENSED,
or in PASSTHROUGH where PCL is LOST, and DEMAND_STALE is raised for each demand that is not FRESH, or
DEMAND_DISAGREE where both are. R97, R98, MISMATCH_TIMER_EXPIRY and SUPPLY_LOW_TIMER_1000: a mismatch that has held
300 ms, a supply that has been low for 1000 ms, raise their faults and stop their timers. R86 and R93 to R96,
ANALOG_SAMPLE, INPUT_HOLD_EXPIRY and SETTLING_BAD_RUN_EXPIRY of PCL: its loss moves SENSED to PASSTHROUGH, with the
votes, windows and timers ended, E at 0 LOST, every channel released, a raised axle coming down and a probe or an
intervention in RECOVER; a PCL in VALID or HOLD keeps SENSED, E following its value and mark. Under the start-up
wait the first VALID publication with SUPPLY_LOW not raised moves PASSTHROUGH to SENSED, a DEGRADED one does not,
and a PCL that enters LOST from SETTLING ends the wait in PASSTHROUGH; without the wait no PCL publication ends
PASSTHROUGH, and one at which PCL becomes LOST there, at the end of its hold or of its bad run, withdraws the clear
votes. -/
def Obligations.DemandTimersRun : Prop :=
  (∀ (dt : Delay) (k : Controller) (s : State) (d : Stamp),
      (s.ctrl k).fresh = .fresh → (s.ctrl k).deadline = some d → reached (s.tick dt).now d = true →
      noCommit s = true →
      ∃ t, exec (.freshnessDeadlineExpiry dt k) s = .next t ∧
        (t.ctrl k).fresh = .stale ∧ (t.ctrl k).deadline = none ∧ (t.ctrl k).demand = (s.ctrl k).demand ∧
        (t.ctrl k).arrival = (s.ctrl k).arrival ∧
        (t.ctrl k.other).demand = (s.ctrl k.other).demand ∧ (t.ctrl k.other).fresh = (s.ctrl k.other).fresh ∧
        t.dar.agree = false ∧ t.dar.agreed = none ∧ t.dar.lastAgreed = s.dar.lastAgreed ∧ t.dar.resume = none ∧
        t.dar.mode = (if s.dar.mode = .electric then .holding else s.dar.mode) ∧
        t.clock = s.clock.advance dt ∧ t.pending = s.pending ∧ t.icu = s.icu ∧ t.cfs = s.cfs ∧ TyresKept s t ∧
        LinesKept s t) ∧
  (∀ (dt : Delay) (s : State) (d : Stamp),
      s.dar.mode = .holding → s.dar.holdDeadline = some d → reached (s.tick dt).now d = true → noCommit s = true →
      ∃ t, exec (.holdDeadlineExpiry dt) s = .next t ∧
        t.dar.mode = (if (s.reading .pcl).mark = .lost then .passthrough else .sensed) ∧
        t.dar.holdDeadline = none ∧ t.dar.e = ⟨s.pclValue, (s.reading .pcl).mark⟩ ∧
        ((s.ctrl .a).fresh ≠ .fresh → t.faulted (.demandStale .a) = true) ∧
        ((s.ctrl .b).fresh ≠ .fresh → t.faulted (.demandStale .b) = true) ∧
        ((s.ctrl .a).fresh = .fresh → (s.ctrl .b).fresh = .fresh → t.faulted .demandDisagree = true) ∧
        t.faulted .controlLineMismatch = false ∧
        t.clock = s.clock.advance dt ∧ t.pending = s.pending ∧ t.icu = s.icu ∧ t.cfs = s.cfs ∧ TyresKept s t ∧
        LinesKept s t) ∧
  (∀ (dt : Delay) (s : State) (d : Stamp),
      (s.dar.mismatch = some d → 300 ≤ since (s.tick dt).now d →
        ∃ t, exec (.mismatchTimerExpiry dt) s = .next t ∧ t.faulted .controlLineMismatch = true ∧
          t.dar = { s.dar with mismatch := none } ∧ LinesKept s t ∧ Changes dt [.dar, .flm, .pif] s t) ∧
      (s.dar.airLow = some d → 1000 ≤ since (s.tick dt).now d →
        ∃ t, exec (.supplyLowTimer1000 dt) s = .next t ∧ t.faulted .airSupplyLow = true ∧
          t.dar = { s.dar with airLow := none } ∧ LinesKept s t ∧ TyresKept s t ∧
          Changes dt [.dar, .flm, .lac, .leu, .rsu, .channels, .chc, .ttr, .pif] s t)) ∧
  ((∀ (dt : Delay) (s : State) (d : Stamp), Inv s → noCommit s = true → s.dar.mode = .sensed →
      (s.input .pcl).state = .hold → (s.input .pcl).holdDeadline = some d → reached (s.tick dt).now d = true →
      ∃ t, exec (.inputHoldExpiry dt .pcl) s = .next t ∧
        t.dar.mode = .passthrough ∧ t.dar.startWait = false ∧ t.dar.e = ⟨0, .lost⟩ ∧ t.dar.holdDeadline = none ∧
        t.dar.resume = none ∧ t.dar.mismatch = none ∧ t.faulted .controlLineMismatch = false ∧
        (∀ k, (t.ctrl k).resumeVote = false ∧ (t.ctrl k).clearVote = false) ∧
        (∀ c, (t.chan c).state = .passthrough ∧ (t.chan c).action = .release ∧ (t.chan c).sp.value = 0) ∧
        (s.lac.state = .raising ∨ s.lac.state = .up → t.lac.state = .lowering) ∧
        (s.rsu.state = .probe ∨ s.rsu.state = .intervene → t.rsu.state = .recover) ∧
        t.cfs = s.cfs ∧ t.leu.cal = s.leu.cal ∧ TyresKept s t ∧ LinesKept s t ∧
        t.clock = s.clock.advance dt ∧ t.pending = s.pending) ∧
    (∀ (dt : Delay) (s : State) (d : Stamp), noCommit s = true → s.dar.mode = .passthrough →
      (s.input .pcl).state = .settling → (s.input .pcl).holdDeadline = some d → reached (s.tick dt).now d = true →
      ∃ t, exec (.settlingBadRunExpiry dt .pcl) s = .next t ∧
        t.dar.mode = .passthrough ∧ t.dar.startWait = false ∧ t.dar.e = ⟨0, .lost⟩ ∧
        (∀ k, (t.ctrl k).clearVote = false) ∧ t.cfs = s.cfs ∧ t.leu.cal = s.leu.cal ∧ TyresKept s t ∧
        LinesKept s t ∧ t.clock = s.clock.advance dt ∧ t.pending = s.pending) ∧
    (∀ (dt : Delay) (s : State) (d : Stamp), noCommit s = true → s.dar.mode = .passthrough →
      (s.input .pcl).state = .hold → (s.input .pcl).holdDeadline = some d → reached (s.tick dt).now d = true →
      ∃ t, exec (.inputHoldExpiry dt .pcl) s = .next t ∧
        t.dar.mode = .passthrough ∧ (s.dar.startWait = false → t.dar.startWait = false) ∧ t.dar.e = ⟨0, .lost⟩ ∧
        (∀ k, t.ctrl k = { s.ctrl k with clearVote := false }) ∧ t.cfs = s.cfs ∧ t.leu.cal = s.leu.cal ∧
        TyresKept s t ∧ LinesKept s t ∧ t.clock = s.clock.advance dt ∧ t.pending = s.pending) ∧
    (∀ (dt : Delay) (x : Int) (o : Bool) (s : State), noCommit s = true →
      (s.dar.mode = .sensed → (s.input .pcl).state = .valid ∨ (s.input .pcl).state = .hold →
        ∃ t, exec (.analogSample dt .pcl x o) s = .next t ∧ t.dar.mode = .sensed ∧
          t.dar.e = ⟨(t.input .pcl).filtered, (t.reading .pcl).mark⟩) ∧
      (s.dar.mode = .passthrough → s.dar.startWait = true → s.faulted .supplyLow = false → o = false →
        turnsValid dt .pcl x s →
        ∃ t, exec (.analogSample dt .pcl x o) s = .next t ∧ t.dar.mode = .sensed ∧ t.dar.startWait = false ∧
          t.dar.e = ⟨(t.input .pcl).filtered, .valid⟩ ∧ t.dar.holdDeadline = none ∧ t.dar.resume = none ∧
          t.dar.mismatch = none ∧ (∀ k, (t.ctrl k).resumeVote = false ∧ (t.ctrl k).clearVote = false) ∧
          (∀ k, (t.ctrl k).demand = (s.ctrl k).demand ∧ (t.ctrl k).fresh = (s.ctrl k).fresh) ∧
          t.dar.lastAgreed = s.dar.lastAgreed ∧
          (∀ c, (s.chan c).state = .passthrough → (s.chan c).latched.any = true → (t.chan c).state = .passthrough)) ∧
      (s.dar.mode = .passthrough → s.dar.startWait = true → o = true →
        (s.input .pcl).state = .valid ∨ (s.input .pcl).state = .hold →
        ∃ t, exec (.analogSample dt .pcl x o) s = .next t ∧ t.dar.mode = .passthrough ∧ t.dar.startWait = true) ∧
      (s.dar.mode = .passthrough → s.dar.startWait = false →
        ∃ t, exec (.analogSample dt .pcl x o) s = .next t ∧ t.dar.mode = .passthrough ∧ t.dar.startWait = false ∧
          t.dar.e = ⟨t.pclValue, (t.reading .pcl).mark⟩)))

/-! ## Setpoints and channels (chapters 5 and 6) -/

/-- R104 to R109, R111, R113 and R114: the stages of the setpoint computation, with what each rule says of the range
of its result: a LOST load, or calibration records not confirmed, count as full and DEGRADED (R107), and the mark
follows the stage at which the computation ended (R114). Division toward zero is `Int.tdiv`. -/
def Obligations.SetpointStages : Prop :=
  (∀ (p : BrakeSet) (c : Channel) (q : SetpointInputs) (t : Stamp), q.inhibited = true →
    computeSetpoint p c q t = ⟨0, .valid, false, .inhibit, none, none, none, none, none, none, none, t⟩) ∧
  (∀ (p : BrakeSet) (c : Channel) (q : SetpointInputs) (t : Stamp),
    q.inhibited = false → q.e.val < p.crack →
    computeSetpoint p c q t = ⟨0, q.e.mark, false, .deadBand, none, none, none, none, none, none, none, t⟩) ∧
  (∀ (p : BrakeSet) (c : Channel) (q : SetpointInputs), q.load.mark ≠ .lost → q.calDefaulted = false →
    let lo := match c with | .ml | .mr => p.mainLoadEmpty | .ll | .lr => p.liftLoadEmpty
    let hi := match c with | .ml | .mr => p.mainLoadLaden | .ll | .lr => p.liftLoadLaden
    lo < hi →
    (loadFraction p c q).mark = q.load.mark ∧
    (loadFraction p c q).val = max 0 (min 1024 (((q.load.val - lo) * 1024).tdiv (hi - lo))) ∧
    (q.load.val ≤ lo → (loadFraction p c q).val = 0) ∧ (hi ≤ q.load.val → (loadFraction p c q).val = 1024)) ∧
  (∀ (p : BrakeSet) (c : Channel) (q : SetpointInputs), q.load.mark = .lost ∨ q.calDefaulted = true →
    loadFraction p c q = ⟨1024, .degraded⟩) ∧
  (∀ (p : BrakeSet) (f : Int), 0 ≤ f → f ≤ 1024 → p.gEmpty ≤ 1024 →
    gainOf p f = p.gEmpty + ((1024 - p.gEmpty) * f).tdiv 1024 ∧ p.gEmpty ≤ gainOf p f ∧ gainOf p f ≤ 1024) ∧
  (∀ e g : Int, 0 ≤ e → e ≤ 1000 → 0 ≤ g → g ≤ 1024 →
    0 ≤ divNearest (e * g) 1024 ∧ divNearest (e * g) 1024 ≤ 1000 ∧
    2 * (e * g) - 1024 < 2048 * divNearest (e * g) 1024 ∧ 2048 * divNearest (e * g) 1024 ≤ 2 * (e * g) + 1024) ∧
  (∀ (p : BrakeSet) (x : Int), minApply p x = if 0 < x ∧ x < p.pMinApply then p.pMinApply else x) ∧
  (∀ (p : BrakeSet) (c : Channel) (q : SetpointInputs) (t : Stamp),
    q.inhibited = false → p.crack ≤ q.e.val →
    let f := loadFraction p c q
    let p2 := minApply p ((divNearest (q.e.val * gainOf p f.val) 1024 * q.derate).tdiv 1024)
    let p3 := max p2 q.floor
    let cap := if q.psr.mark = .lost then p.pMax c else min (p.pMax c) (max 0 (q.psr.val - p.supplyMargin))
    let r := computeSetpoint p c q t
    r.value = min p3 cap ∧ (r.limited = true ↔ cap < p3) ∧ r.stop = .complete ∧
    r.cap.map (fun x => x.1) = some cap ∧
    (0 ≤ q.floor → 0 ≤ p.pMax c → 0 ≤ r.value ∧ r.value ≤ p.pMax c) ∧
    (q.psr.mark ≠ .lost → r.value ≤ max 0 (q.psr.val - p.supplyMargin)) ∧
    r.f = some f ∧
    (r.mark = .lost ↔ q.e.mark = .lost) ∧
    (r.mark = .valid ↔ q.e.mark = .valid ∧ f.mark = .valid ∧ q.psr.mark = .valid))

/-- R120: a PD sample of a channel in REGULATE that leaves the input VALID sets the coil action by the error, and
one that leaves it DEGRADED sets HOLD. The premise on the lift axle is an invariant: no axle stands raised against a
trigger of R77, so none begins to come down in the event. -/
def Obligations.RegulationDecides : Prop :=
  ∀ (dt : Delay) (c : Channel) (x : Int) (o : Bool) (s t : State),
    exec (.analogSample dt (pdOf c) x o) s = .next t → (s.chan c).state = .regulate → LiftOk s →
    (t.chan c).state = .regulate ∧
    ((t.input (pdOf c)).state = .valid →
      (t.chan c).action =
        (if s.brake.regBand < (s.chan c).sp.value - (t.input (pdOf c)).filtered then .apply
         else if (s.chan c).sp.value - (t.input (pdOf c)).filtered < -s.brake.regBand then .vent
         else .hold)) ∧
    ((t.input (pdOf c)).state = .hold → (t.chan c).action = .hold) ∧
    (∀ d, d ≠ c → t.chan d = s.chan d)

/-- R137, CHANNEL_RESTORE: refused with WRONG_STATE unless the channel's PD input is VALID and its three coils are
OK; otherwise its latched causes and PRESSURE_TRACKING are removed, and the channel leaves PASSTHROUGH unless the
demand mode holds it there: to INHIBITED where its wheel end is lifted, else to CONVERGE or REGULATE. R138, R139: it
holds the measured pressure with HOLD until `converge_timeout`; where the setpoint of its record, or the one the
departure brings, is within `reg_band` of that pressure, or the two lie on different sides of it, it is in REGULATE,
and otherwise in CONVERGE with the side of the new setpoint. A channel without a latched cause stays as it is. The
channel indexes are 0 to 3 in the order ML, MR, LL, LR, and any other is refused with BAD_ARGUMENT. Of an SPI port
with no transaction begun the answer rests on log entry 5. -/
def Obligations.ChannelIsRestored : Prop :=
  (∀ (dt : Delay) (p : Port) (g : Option Guard) (b : Byte) (s : State),
      readChannel [b] = (match b.toNat with
        | 0 => some .ml | 1 => some .mr | 2 => some .ll | 3 => some .lr | _ => none) ∧
      (3 < b.toNat → accepted p .channelRestore g [b] s = true →
        ∃ t, exec (.channelRestore dt p g [b]) s = .next t ∧
          TurnedAway dt p .channelRestore (.refused .badArgument) s t)) ∧
  ∀ (dt : Delay) (p : Port) (g : Option Guard) (l : List Byte) (c : Channel) (s : State),
    accepted p .channelRestore g l s = true → readChannel l = some c →
    let ready := (s.input (pdOf c)).state = .valid ∧ ∀ f, (s.coil (.of c f)).status = .ok
    (¬ready →
      ∃ t, exec (.channelRestore dt p g l) s = .next t ∧
        TurnedAway dt p .channelRestore (.refused .wrongState) s t) ∧
    (ready → (s.chan c).latched.any = false →
      ∃ t, exec (.channelRestore dt p g l) s = .next t ∧ TurnedAway dt p .channelRestore (.done []) s t) ∧
    (ready → (s.chan c).latched.any = true → (s.chan c).state = .passthrough →
      ∃ t, exec (.channelRestore dt p g l) s = .next t ∧ Done p .channelRestore (.done []) s t ∧
        (t.chan c).latched = ⟨false, false, false⟩ ∧ t.faulted (.pressureTracking c) = false ∧
        (s.dar.mode = .passthrough → (t.chan c).state = .passthrough) ∧
        (s.dar.mode ≠ .passthrough → s.chanLifted c = true →
          (t.chan c).state = .inhibited ∧ (t.chan c).action = .vent) ∧
        (s.dar.mode ≠ .passthrough → s.chanLifted c = false →
          (t.chan c).state = .converge ∨ (t.chan c).state = .regulate) ∧
        (s.dar.mode ≠ .passthrough → s.chanLifted c = false → 0 ≤ s.brake.regBand →
          let m := (s.measured c).val
          let old := (s.chan c).sp.value
          let new := (t.chan c).sp.value
          if (-s.brake.regBand ≤ old - m ∧ old - m ≤ s.brake.regBand) ∨ (old < m ∧ m < new) ∨ (new < m ∧ m < old) then
            (t.chan c).state = .regulate ∧ (t.chan c).action = .hold ∧ (t.chan c).held = none ∧
              (t.chan c).holdDeadline = none ∧ (t.chan c).side = none
          else Converges (s.tick dt).now s.brake c m new t) ∧
        (∀ d, d ≠ c → t.chan d = s.chan d) ∧ TyresKept s t ∧
        Changes dt [.channels, .chc, .ttr, .flm, .pif] s t)

/-- R122, R123, REFERENCE_EVALUATION: the reference speed follows the candidate or falls by `decel_step`, and each
channel's slip is the largest of its wheel ends on the ground. R129: a channel with wheel ends on the ground, none
of them VALID, has ANTILOCK_UNAVAILABLE raised while the reference speed is not LOST and at least 50; one with a
VALID wheel end on the ground, or with none on the ground, has it cleared; otherwise it stays as it is. That holds
whatever the anti-lock, the roll function and the lift axle then do. -/
def Obligations.ReferenceIsEvaluated : Prop :=
  ∀ (dt : Delay) (s : State), noCommit s = true →
    ∃ t, exec (.referenceEvaluation dt) s = .next t ∧
      (∀ x, s.candidate = some x →
        t.chc.ref = ⟨if s.chc.ref.mark = .lost then x else max x (s.chc.ref.val - s.brake.decelStep), .valid⟩ ∧
        t.chc.lastCandidate = some (s.tick dt).now) ∧
      (s.candidate = none → t.chc.lastCandidate = s.chc.lastCandidate ∧
        ((s.chc.ref.mark = .lost ∨ (∀ d, s.chc.lastCandidate = some d → 500 ≤ since (s.tick dt).now d)) →
          t.chc.ref = ⟨0, .lost⟩) ∧
        (∀ d, s.chc.ref.mark ≠ .lost → s.chc.lastCandidate = some d → since (s.tick dt).now d < 500 →
          t.chc.ref = ⟨max 0 (s.chc.ref.val - s.brake.decelStep), .degraded⟩)) ∧
      (∀ w, (s.wheel w).state = .valid → s.lifted w = false → t.chc.ref.mark ≠ .lost → 50 ≤ t.chc.ref.val →
        t.chc.slips.get w =
          max 0 (((t.chc.ref.val - (s.wheel w).published) * 1000).tdiv t.chc.ref.val)) ∧
      (∀ w, (s.wheel w).state ≠ .valid ∨ s.lifted w = true ∨ t.chc.ref.mark = .lost ∨ t.chc.ref.val < 50 →
        t.chc.slips.get w = 0) ∧
      (∀ c, (t.chan c).slip = (wheelsOf c).foldl (fun m w =>
        if (s.wheel w).state = .valid ∧ s.lifted w = false then max m (t.chc.slips.get w) else m) 0) ∧
      (∀ c, let ground := fun (w : WheelEnd) => channelOf w = c ∧ s.lifted w = false
        let clears := (∃ w, ground w ∧ (s.wheel w).state = .valid) ∨ ¬∃ w, ground w
        (clears → t.faulted (.antilockUnavailable c) = false) ∧
        (¬clears → t.chc.ref.mark ≠ .lost → 50 ≤ t.chc.ref.val → t.faulted (.antilockUnavailable c) = true) ∧
        (¬clears → t.chc.ref.mark = .lost ∨ t.chc.ref.val < 50 →
          t.faulted (.antilockUnavailable c) = s.faulted (.antilockUnavailable c))) ∧
      t.icu = s.icu ∧ t.cfs = s.cfs ∧ t.leu.cal = s.leu.cal ∧ TyresKept s t ∧ LinesKept s t ∧
      t.clock = s.clock.advance dt ∧ t.pending = s.pending

/-- R125 to R127, DUMP_DEADLINE_EXPIRY, ANTILOCK_HOLD_EXPIRY and REAPPLY_STEP: a dump ends in HOLD; a hold ends in
REAPPLY at the measured pressure; the ramp rises by `reapply_step` up to its limit, the smaller of the setpoint and
P_lock; a ramp at its limit ends the episode in REGULATE. That the deadline of the next step counts from the
deadline that has passed is the model's choice, log entry 32. R124 to R128, REFERENCE_EVALUATION: at an evaluation
that leaves the roll state as it is, a channel in REGULATE or CONVERGE begins an episode in phase DUMP exactly where
its slip, its setpoint and the reference speed call for one and no probe stands on its side. A channel in ANTILOCK
leaves it for REGULATE where the setpoint is 0 or below the measured pressure less `reg_band`, or the reference
speed is LOST or below 50; otherwise the slip ends a dump or begins the next. That each channel is judged once by
the state the evaluation found is the model's choice, log entry 36. R128, R120, ANALOG_SAMPLE of a PD input and
every setpoint publication: the same three findings end an episode of the channel in REGULATE with HOLD; a PD sample
that ends none leaves everything but the coil action, which a reapply takes from its ramp target. That the sample
which ends an episode takes no regulation decision, so that HOLD stands after it, is the model's choice, log entry
21. The premise on the lift axle is an invariant, as for a regulation decision. -/
def Obligations.AntilockPhasesRun : Prop :=
  (∀ (dt : Delay) (c : Channel) (s : State) (d : Stamp) (lock : Int),
      (s.chan c).state = .antilock → (s.chan c).phaseDeadline = some d → reached (s.tick dt).now d = true →
      (s.chan c).pLock = some lock →
      let limit := min (s.chan c).sp.value lock
      ((s.chan c).phase = .dump →
        ∃ t, exec (.dumpDeadlineExpiry dt c) s = .next t ∧
          (t.chan c).state = .antilock ∧ (t.chan c).phase = .hold ∧ (t.chan c).action = .hold ∧
          (t.chan c).pLock = some lock ∧
          (t.chan c).phaseDeadline = some (after (s.tick dt).now s.brake.holdTime) ∧
          (t.chan c).episodes = (s.chan c).episodes ∧ (∀ e, e ≠ c → t.chan e = s.chan e) ∧
          Changes dt [.channels, .chc] s t) ∧
      ((s.chan c).phase = .hold →
        ∃ t, exec (.antilockHoldExpiry dt c) s = .next t ∧
          (t.chan c).action = .hold ∧ (t.chan c).episodes = (s.chan c).episodes ∧
          ((s.measured c).val = limit → (t.chan c).state = .regulate ∧ (t.chan c).phase = .idle) ∧
          ((s.measured c).val ≠ limit → (t.chan c).state = .antilock ∧ (t.chan c).phase = .reapply ∧
            (t.chan c).ramp = some (s.measured c).val ∧ (t.chan c).pLock = some lock ∧
            (t.chan c).phaseDeadline = some (after (s.tick dt).now 20)) ∧
          (∀ e, e ≠ c → t.chan e = s.chan e) ∧ LinesKept s t ∧ Changes dt [.channels, .chc, .pif] s t) ∧
      (∀ x, (s.chan c).phase = .reapply → (s.chan c).ramp = some x →
        ∃ t, exec (.reapplyStep dt c) s = .next t ∧ (t.chan c).episodes = (s.chan c).episodes ∧
          (limit ≤ x + s.brake.reapplyStep → (t.chan c).state = .regulate ∧ (t.chan c).phase = .idle) ∧
          (x + s.brake.reapplyStep < limit →
            t.chan c = { s.chan c with ramp := some (x + s.brake.reapplyStep), phaseDeadline := some (after d 20) }) ∧
          (∀ e, e ≠ c → t.chan e = s.chan e) ∧ LinesKept s t ∧ Changes dt [.channels, .chc, .pif] s t)) ∧
  (∀ (dt : Delay) (s : State) (c : Channel), Inv s → noCommit s = true →
      ∃ t, exec (.referenceEvaluation dt) s = .next t ∧
        (t.rsu.state = s.rsu.state →
          let slip := (t.chan c).slip
          let kept := t.chan c = { s.chan c with slip := slip }
          let dumped := (t.chan c).state = .antilock ∧ (t.chan c).phase = .dump ∧ (t.chan c).action = .vent ∧
            (t.chan c).pLock = some (s.measured c).val ∧ (t.chan c).ramp = none ∧
            (t.chan c).phaseDeadline = some (after (s.tick dt).now s.brake.dumpMax)
          let calls := s.brake.slipEnter ≤ slip ∧ 0 < (s.chan c).sp.value ∧ t.chc.ref.mark ≠ .lost ∧
            50 ≤ t.chc.ref.val ∧ ¬(s.rsu.state = .probe ∧ s.rsu.inner = some (sideOfChannel c))
          let ends := (s.chan c).sp.value = 0 ∨ t.chc.ref.mark = .lost ∨ t.chc.ref.val < 50 ∨
            (s.chan c).sp.value < (s.measured c).val - s.brake.regBand
          ((s.chan c).state = .regulate ∨ (s.chan c).state = .converge →
            (calls → dumped ∧ (t.chan c).held = none ∧ (t.chan c).holdDeadline = none ∧
              (t.chan c).episodes =
                if (s.chan c).episodes < 65535 then (s.chan c).episodes + 1 else (s.chan c).episodes) ∧
            (¬calls → kept)) ∧
          ((s.chan c).state = .antilock →
            (ends → (t.chan c).state = .regulate ∧ (t.chan c).phase = .idle ∧ (t.chan c).pLock = none ∧
              (t.chan c).ramp = none ∧ (t.chan c).phaseDeadline = none ∧ (t.chan c).action = .hold ∧
              (t.chan c).episodes = (s.chan c).episodes) ∧
            (¬ends → (s.chan c).phase = .dump → slip ≤ s.brake.slipExit →
              (t.chan c).state = .antilock ∧ (t.chan c).phase = .hold ∧ (t.chan c).action = .hold ∧
              (t.chan c).pLock = (s.chan c).pLock ∧
              (t.chan c).phaseDeadline = some (after (s.tick dt).now s.brake.holdTime) ∧
              (t.chan c).episodes = (s.chan c).episodes) ∧
            (¬ends → (s.chan c).phase = .dump → s.brake.slipExit < slip → kept) ∧
            (¬ends → (s.chan c).phase = .hold ∨ (s.chan c).phase = .reapply → s.brake.slipEnter ≤ slip →
              dumped ∧ (t.chan c).episodes = (s.chan c).episodes) ∧
            (¬ends → (s.chan c).phase = .hold ∨ (s.chan c).phase = .reapply → slip < s.brake.slipEnter → kept)))) ∧
  ((∀ (dt : Delay) (c : Channel) (x : Int) (o : Bool) (s : State), (s.chan c).state = .antilock → LiftOk s →
      ∃ t, exec (.analogSample dt (pdOf c) x o) s = .next t ∧
        (let m := t.measured c
          let ends := (s.chan c).sp.value = 0 ∨ s.chc.ref.mark = .lost ∨ s.chc.ref.val < 50 ∨
            (s.chan c).sp.value < m.val - s.brake.regBand
          (ends → (t.chan c).state = .regulate ∧ (t.chan c).phase = .idle ∧ (t.chan c).pLock = none ∧
            (t.chan c).ramp = none ∧ (t.chan c).phaseDeadline = none ∧ (t.chan c).action = .hold ∧
            (t.chan c).episodes = (s.chan c).episodes) ∧
          (¬ends → t.chan c = { s.chan c with action := (t.chan c).action } ∧
            ((s.chan c).phase ≠ .reapply → (t.chan c).action = (s.chan c).action) ∧
            ∀ y, (s.chan c).phase = .reapply → (s.chan c).ramp = some y →
              (m.mark = .degraded → (t.chan c).action = .hold) ∧
              (m.mark = .valid → (t.chan c).action =
                if s.brake.regBand < y - m.val then .apply
                else if y - m.val < -s.brake.regBand then .vent else .hold))) ∧
        ∀ d, d ≠ c → t.chan d = s.chan d) ∧
    (∀ (c : Channel) (s : State), (s.chan c).state = .antilock →
      ((s.chan c).sp.value = 0 ∨ s.chc.ref.mark = .lost ∨ s.chc.ref.val < 50 ∨
        (s.chan c).sp.value < (s.measured c).val - s.brake.regBand →
        ((onSetpoint c s).chan c).state = .regulate ∧ ((onSetpoint c s).chan c).phase = .idle) ∧
      (¬((s.chan c).sp.value = 0 ∨ s.chc.ref.mark = .lost ∨ s.chc.ref.val < 50 ∨
        (s.chan c).sp.value < (s.measured c).val - s.brake.regBand) → onSetpoint c s = s)))

/-- R121, R131 and R139, TRACKING_TIME_REACHED, SAFE_HOLD_EXPIRY and CONVERGE_TIMEOUT: a channel that has not
reached its setpoint latches TRACKING with its fault and goes to PASSTHROUGH; a safe hold that ends latches SENSOR
and goes to PASSTHROUGH; a converge that runs out goes to REGULATE. R131, R138, ANALOG_SAMPLE of a PD input: a
sample that leaves the input VALID brings a channel from SAFE_HOLD to CONVERGE, or to REGULATE where its setpoint is
within `reg_band`; that this sample takes no regulation decision, so that HOLD stands after it, is the model's
choice, log entry 21. R121: a sample or a setpoint publication in REGULATE starts the tracking time, or lets it run,
where the deviation from a VALID pressure exceeds `track_tol`, returns it to 0 where it does not, and pauses it
while the pressure is DEGRADED. R103: a computation that changes the value, the mark or LIMITED of a setpoint
publishes it to the channel. R139: such a publication in CONVERGE brings REGULATE where the setpoint is within
`reg_band` of the held pressure or on its other side, and otherwise leaves the channel. A converge request leaves a
channel outside REGULATE, CONVERGE and ANTILOCK. The premises on the lift axle and on `reg_band` are invariants. -/
def Obligations.ChannelTimersRun : Prop :=
  (∀ (dt : Delay) (c : Channel) (s : State),
    ((s.chan c).state = .regulate →
      s.brake.trackTime ≤ (s.chan c).tracking (s.tick dt).now →
      ∃ t, exec (.trackingTimeReached dt c) s = .next t ∧
        (t.chan c).state = .passthrough ∧ (t.chan c).action = .release ∧ (t.chan c).sp.value = 0 ∧
        (t.chan c).latched = { (s.chan c).latched with tracking := true } ∧
        t.faulted (.pressureTracking c) = true ∧ (∀ e, e ≠ c → t.chan e = s.chan e) ∧ TyresKept s t ∧
        LinesKept s t ∧ Changes dt [.channels, .chc, .ttr, .flm, .pif] s t) ∧
    (∀ d, (s.chan c).state = .safeHold → (s.chan c).holdDeadline = some d → reached (s.tick dt).now d = true →
      ∃ t, exec (.safeHoldExpiry dt c) s = .next t ∧
        (t.chan c).state = .passthrough ∧ (t.chan c).action = .release ∧ (t.chan c).sp.value = 0 ∧
        (t.chan c).latched = { (s.chan c).latched with sensor := true } ∧
        (t.chan c).held = none ∧ (∀ e, e ≠ c → t.chan e = s.chan e) ∧ TyresKept s t ∧
        LinesKept s t ∧ Changes dt [.channels, .chc, .ttr, .flm, .pif] s t) ∧
    (∀ d, (s.chan c).state = .converge → (s.chan c).holdDeadline = some d → reached (s.tick dt).now d = true →
      ∃ t, exec (.convergeTimeout dt c) s = .next t ∧
        (t.chan c).state = .regulate ∧ (t.chan c).action = .hold ∧ (t.chan c).held = none ∧
        (t.chan c).side = none ∧ (t.chan c).sp = (s.chan c).sp ∧ (∀ e, e ≠ c → t.chan e = s.chan e) ∧
        Changes dt [.channels, .chc] s t)) ∧
  (∀ (dt : Delay) (c : Channel) (x : Int) (o : Bool) (s : State), LiftOk s →
    (s.chan c).state = .safeHold ∨ (s.chan c).state = .regulate ∨ (s.chan c).state = .converge →
    ∃ t, exec (.analogSample dt (pdOf c) x o) s = .next t ∧ (t.chan c).sp = (s.chan c).sp ∧
      ((s.chan c).state = .safeHold →
        ((t.input (pdOf c)).state = .valid →
          Converges (s.tick dt).now s.brake c (t.measured c).val (s.chan c).sp.value t) ∧
        ((t.input (pdOf c)).state ≠ .valid → t.chan c = s.chan c)) ∧
      ((s.chan c).state = .regulate →
        Tracks (s.tick dt).now s.brake.trackTol (t.measured c) (s.chan c) (t.chan c)) ∧
      ((s.chan c).state = .converge → t.chan c = s.chan c) ∧
      (∀ e, e ≠ c → t.chan e = s.chan e)) ∧
  (∀ (c : Channel) (s : State),
    let q := computeSetpoint s.brake c (s.setpointInputs c) s.now
    let old := (s.chan c).sp
    let u := s.setChan c { s.chan c with sp := q }
    (compute s c).chan c =
      if old.value = q.value ∧ old.mark = q.mark ∧ old.limited = q.limited then u.chan c
      else (onSetpoint c u).chan c) ∧
  (∀ (c : Channel) (s : State) (h : Int),
    let sp := (s.chan c).sp.value
    ((s.chan c).state = .regulate →
      Tracks s.now s.brake.trackTol (s.measured c) (s.chan c) ((onSetpoint c s).chan c) ∧
      ((onSetpoint c s).chan c).action = (s.chan c).action) ∧
    ((s.chan c).state = .converge → (s.chan c).held = some h → (s.chan c).side.isSome = true → 0 ≤ s.brake.regBand →
      let ends := (-s.brake.regBand ≤ sp - h ∧ sp - h ≤ s.brake.regBand) ∨
        ((s.chan c).side = some .below ∧ h < sp) ∨ ((s.chan c).side = some .above ∧ sp < h)
      (ends → let r := (onSetpoint c s).chan c
        r.state = .regulate ∧ r.action = .hold ∧ r.held = none ∧ r.holdDeadline = none ∧ r.side = none ∧
          r.sp = (s.chan c).sp) ∧
      (¬ends → onSetpoint c s =
        s.setChan c { s.chan c with side := some (if sp < h then .below else .above) })) ∧
    ((s.chan c).state ≠ .regulate → (s.chan c).state ≠ .converge → (s.chan c).state ≠ .antilock →
      convergeRequest s c = s))

/-- R132 to R134, ON_CHECK_EXPIRY, OVERCURRENT and PATROL_VISIT: while SUPPLY_LOW is not raised an on-check sets the
coil's status by the current, and a patrol visit that of a coil whose driver is off; an overcurrent marks the coil
SHORT and switches its driver off. A fault is raised and latches COIL in the channel; the patrol goes on to the next
coil. -/
def Obligations.CoilsAreTested : Prop :=
  ∀ (dt : Delay) (k : Coil) (s : State),
    (∀ d below, (s.coil k).readback = true → (s.coil k).onCheck = some d → reached (s.tick dt).now d = true →
      s.faulted .supplyLow = false →
      ∃ t, exec (.onCheckExpiry dt k below) s = .next t ∧
        (t.coil k).status = (if below then .openCircuit else .ok) ∧
        (t.coil k).lastTest = some ⟨.onCheck, (s.tick dt).now, if below then .openCircuit else .pass⟩ ∧
        t.faulted (.coilOpen k) = below ∧ t.faulted (.coilShort k) = false ∧
        (∀ c f, k = .of c f → below = true →
          (t.chan c).latched.coil = true ∧ (t.chan c).state = .passthrough) ∧
        (∀ j, j ≠ k → (t.coil j).status = (s.coil j).status ∧ (t.coil j).lastTest = (s.coil j).lastTest) ∧
        t.icu = s.icu ∧ t.dar = s.dar ∧ t.cfs = s.cfs ∧ TyresKept s t ∧ LinesKept s t) ∧
    ((s.coil k).readback = true →
      ∃ t, exec (.overcurrent dt k) s = .next t ∧
        (t.coil k).status = .short ∧ (t.coil k).readback = false ∧ t.faulted (.coilShort k) = true ∧
        t.faulted (.coilOpen k) = false ∧
        (∀ c f, k = .of c f → (t.chan c).latched.coil = true ∧ (t.chan c).state = .passthrough) ∧
        (∀ j, j ≠ k → (t.coil j).status = (s.coil j).status ∧ (t.coil j).lastTest = (s.coil j).lastTest) ∧
        t.icu = s.icu ∧ t.dar = s.dar ∧ t.cfs = s.cfs ∧ TyresKept s t ∧ LinesKept s t) ∧
    (∀ x, s.chc.patrol = k → (s.coil k).readback = false → s.faulted .supplyLow = false →
      ∃ t, exec (.patrolVisit dt x) s = .next t ∧
        t.chc.patrol = nextCoil k ∧ (t.coil k).status = testStatus x ∧
        (t.coil k).lastTest = some ⟨.patrol, (s.tick dt).now, x⟩ ∧
        (t.faulted (.coilOpen k) = true ↔ x = .openCircuit) ∧ (t.faulted (.coilShort k) = true ↔ x = .short) ∧
        (∀ c f, k = .of c f → x ≠ .pass → (t.chan c).latched.coil = true ∧ (t.chan c).state = .passthrough) ∧
        (∀ j, j ≠ k → (t.coil j).status = (s.coil j).status ∧ (t.coil j).lastTest = (s.coil j).lastTest) ∧
        t.icu = s.icu ∧ t.dar = s.dar ∧ t.cfs = s.cfs ∧ TyresKept s t ∧ LinesKept s t)

/-! ## Inputs and wheels (chapter 1) -/

/-- R5 to R14, ANALOG_SAMPLE: the sampled input is moved by the classified and clamped reading: a good sample makes
a VALID or HOLD input VALID with the mean of its window, a bad one begins or keeps the hold; a LOST or SETTLING
input becomes VALID with that reading alone after 100 ms of good samples, which clears its fault. No other input, no
wheel end and no tyre record is touched. -/
def Obligations.SampleMovesInput : Prop :=
  ∀ (dt : Delay) (i : InputId) (x : Int) (o : Bool) (s : State), noCommit s = true →
    let r := s.input i
    let good := o = false ∧ (nominal i).1 - margin i ≤ x ∧ x ≤ (nominal i).2 + margin i
    let y := max (nominal i).1 (min (nominal i).2 x)
    let cause := if o = true then InCause.openWire else .range
    ∃ t, exec (.analogSample dt i x o) s = .next t ∧
      (t.input i).last = x ∧ (t.input i).lastSample = (s.tick dt).now ∧
      (t.input i).band = (if ¬good then r.band else if x < (nominal i).1 then .under
        else if (nominal i).2 < x then .over else .inRange) ∧
      (good → r.state = .valid ∨ r.state = .hold →
        (t.input i).state = .valid ∧ (t.input i).holdDeadline = none ∧ (t.input i).cause = .none ∧
        (t.input i).window = joinWindow (s.brake.inFilter i) r.window y ∧
        (t.input i).filtered = divNearest (t.input i).window.sum (t.input i).window.length) ∧
      (¬good → r.state = .valid →
        (t.input i).state = .hold ∧ (t.input i).filtered = r.filtered ∧ (t.input i).window = r.window ∧
        (t.input i).cause = cause ∧ (t.input i).holdDeadline = some (after (s.tick dt).now s.brake.inHoldTime)) ∧
      (¬good → r.state = .hold →
        (t.input i).state = .hold ∧ (t.input i).filtered = r.filtered ∧ (t.input i).cause = cause ∧
        (t.input i).holdDeadline = r.holdDeadline) ∧
      (good → r.state = .settling → r.holdDeadline.isSome = true →
        (t.input i).state = .settling ∧ (t.input i).filtered = r.filtered ∧ (t.input i).holdDeadline = none ∧
        (t.input i).cause = .none ∧ (t.input i).runStart = some (s.tick dt).now) ∧
      (good → r.state = .lost ∨ r.state = .settling ∧ r.holdDeadline = none →
        (∀ d, r.runStart = some d → 100 ≤ since (s.tick dt).now d →
          (t.input i).state = .valid ∧ (t.input i).window = [y] ∧ (t.input i).filtered = y ∧
          (t.input i).raised = .none ∧ (t.input i).runStart = none ∧
          (r.state = .lost → ∀ z, raisedPair i r.raised = some z → t.faulted z = false)) ∧
        (∀ d, r.runStart = some d → since (s.tick dt).now d < 100 →
          (t.input i).state = r.state ∧ (t.input i).filtered = r.filtered ∧ (t.input i).runStart = some d) ∧
        (r.runStart = none →
          (t.input i).state = r.state ∧ (t.input i).filtered = r.filtered ∧
          (t.input i).runStart = some (s.tick dt).now)) ∧
      (¬good → r.state = .lost →
        (t.input i).state = .lost ∧ (t.input i).filtered = r.filtered ∧ (t.input i).runStart = none ∧
        (t.input i).cause = r.cause ∧ (t.input i).raised = r.raised) ∧
      (¬good → r.state = .settling →
        (t.input i).state = .settling ∧ (t.input i).filtered = r.filtered ∧ (t.input i).cause = cause ∧
        (r.holdDeadline = none → (t.input i).runStart = some (s.tick dt).now ∧
          (t.input i).holdDeadline = some (after (s.tick dt).now s.brake.inHoldTime)) ∧
        (∀ d b, r.holdDeadline = some d → r.runStart = some b →
          (t.input i).runStart = some b ∧ (t.input i).holdDeadline = some d)) ∧
      (∀ j, j ≠ i → t.input j = s.input j) ∧ t.icu.wheels = s.icu.wheels ∧ t.icu.supplyLow = s.icu.supplyLow ∧
      t.cfs = s.cfs ∧ t.leu.cal = s.leu.cal ∧ TyresKept s t ∧ LinesKept s t ∧
      t.clock = s.clock.advance dt ∧ t.pending = s.pending

/-- R12, R14, R130, INPUT_HOLD_EXPIRY and SETTLING_BAD_RUN_EXPIRY: the input becomes LOST with its value frozen and
its fault raised, INPUT_OPEN for an open wire and INPUT_RANGE otherwise; a channel whose PD input fails follows the
table of R130: from REGULATE, CONVERGE and ANTILOCK to SAFE_HOLD or to PASSTHROUGH as `safe_action` says, while
SAFE_HOLD stays and INHIBITED goes to PASSTHROUGH. The premise on the lift axle is an invariant. -/
def Obligations.InputsFail : Prop :=
  ∀ (dt : Delay) (i : InputId) (s : State) (d : Stamp),
    (s.input i).holdDeadline = some d → reached (s.tick dt).now d = true → noCommit s = true →
    let outcome := fun (t : State) =>
      (t.input i).state = .lost ∧ (t.input i).filtered = (s.input i).filtered ∧ (t.input i).holdDeadline = none ∧
      (t.input i).runStart = none ∧
      ((s.input i).cause = .openWire → (t.input i).raised = .inputOpen ∧ t.faulted (.inputOpen i) = true) ∧
      ((s.input i).cause ≠ .openWire → (t.input i).raised = .inputRange ∧ t.faulted (.inputRange i) = true) ∧
      (∀ c, pdOf c = i → LiftOk s →
        ((s.chan c).state = .regulate ∨ (s.chan c).state = .converge ∨ (s.chan c).state = .antilock →
          s.brake.holdThenPneumatic = true →
          (t.chan c).state = .safeHold ∧ (t.chan c).action = .hold ∧ (t.chan c).held = some (s.measured c).val ∧
          (t.chan c).holdDeadline = some (after (s.tick dt).now s.brake.safeHoldTime)) ∧
        ((s.chan c).state = .regulate ∨ (s.chan c).state = .converge ∨ (s.chan c).state = .antilock →
          s.brake.holdThenPneumatic = false →
          (t.chan c).state = .passthrough ∧ (t.chan c).latched.sensor = true) ∧
        ((s.chan c).state = .safeHold → t.chan c = s.chan c) ∧
        ((s.chan c).state = .inhibited ∨ (s.chan c).state = .passthrough →
          (t.chan c).state = .passthrough ∧ (t.chan c).latched.sensor = true ∧
          (t.chan c).departPending = false)) ∧
      (∀ j, j ≠ i → t.input j = s.input j) ∧ t.icu.wheels = s.icu.wheels ∧ t.icu.supplyLow = s.icu.supplyLow ∧
      t.cfs = s.cfs ∧ t.leu.cal = s.leu.cal ∧ TyresKept s t ∧ LinesKept s t ∧
      t.clock = s.clock.advance dt ∧ t.pending = s.pending
    ((s.input i).state = .hold → ∃ t, exec (.inputHoldExpiry dt i) s = .next t ∧ outcome t) ∧
    ((s.input i).state = .settling → ∃ t, exec (.settlingBadRunExpiry dt i) s = .next t ∧ outcome t)

/-- R16, TOOTH_EDGE: an edge is counted and stamped with the microsecond time, in every wheel state, and is the
interval's first edge where there was none; nothing else changes. R17 to R19, WHEEL_EVALUATION: every wheel end's
computed speed follows from its edges, the interval starts anew, a VALID wheel end publishes it, and a SETTLING one
with an edge and no open wire becomes VALID. -/
def Obligations.WheelSpeedIsMeasured : Prop :=
  (∀ (dt : Delay) (w : WheelEnd) (s : State), ∃ t, exec (.toothEdge dt w) s = .next t ∧
      t.clock.us = s.clock.us + BitVec.ofNat 32 dt ∧
      t.wheel w = { s.wheel w with
        count := (s.wheel w).count + 1
        firstEdge := some ((s.wheel w).firstEdge.getD t.clock.us)
        ivLastEdge := some t.clock.us
        lastEdge := some t.clock.us } ∧
      (∀ v, v ≠ w → t.wheel v = s.wheel v) ∧ t.icu.inputs = s.icu.inputs ∧ t.icu.supplyLow = s.icu.supplyLow ∧
      t.icu.lowTimer = s.icu.lowTimer ∧ t.icu.clearTimer = s.icu.clearTimer ∧ Changes dt [.icu] s t) ∧
  (∀ (dt : Delay) (s : State), ∃ t, exec (.wheelEvaluation dt) s = .next t ∧
      (∀ w, let r := s.wheel w
        let now := (s.tick dt).nowUs
        (t.wheel w).count = 0 ∧ (t.wheel w).firstEdge = none ∧ (t.wheel w).ivLastEdge = none ∧
        (t.wheel w).latestCount = r.count ∧ (t.wheel w).lastEdge = r.lastEdge ∧
        (t.wheel w).openWire = r.openWire ∧ (t.wheel w).holdDeadline = r.holdDeadline ∧
        (t.wheel w).recoveryEnd = r.recoveryEnd ∧
        (t.wheel w).state =
          (if r.state = .settling ∧ 1 ≤ r.count ∧ r.openWire = false then .valid else r.state) ∧
        (t.wheel w).published = (if (t.wheel w).state = .valid then (t.wheel w).computed else r.published) ∧
        (r.lastEdge = none → (t.wheel w).computed = 0) ∧
        (∀ e, r.lastEdge = some e → 200000 ≤ since now e → (t.wheel w).computed = 0) ∧
        (∀ e a b, r.lastEdge = some e → since now e < 200000 → 2 ≤ r.count → r.firstEdge = some a →
          r.ivLastEdge = some b → b ≠ a →
          (t.wheel w).computed =
            divNearest ((r.count - 1) * s.brake.circ w * 36000) (s.brake.teethPerRev * since b a)) ∧
        (∀ e, r.lastEdge = some e → since now e < 200000 → r.count < 2 → now ≠ e →
          (t.wheel w).computed =
            min r.computed (divNearest (s.brake.circ w * 36000) (s.brake.teethPerRev * since now e)))) ∧
      t.icu.inputs = s.icu.inputs ∧ t.icu.supplyLow = s.icu.supplyLow ∧ t.icu.lowTimer = s.icu.lowTimer ∧
      t.icu.clearTimer = s.icu.clearTimer ∧ Changes dt [.icu] s t)

/-- R19 to R21, OPEN_WIRE_APPEAR, OPEN_WIRE_DISAPPEAR, WHEEL_HOLD_EXPIRY and WHEEL_RECOVERY_EXPIRY: an open wire
holds a VALID wheel end, its end within the hold publishes the latest computed speed, a hold that runs out makes the
wheel end LOST with its fault, and 100 ms without the indication clear it. -/
def Obligations.OpenWiresAreJudged : Prop :=
  ∀ (dt : Delay) (w : WheelEnd) (s : State),
    let r := s.wheel w
    let now := (s.tick dt).now
    let kept := fun (t : State) => (∀ v, v ≠ w → t.wheel v = s.wheel v) ∧ t.icu.inputs = s.icu.inputs ∧
      t.icu.supplyLow = s.icu.supplyLow ∧ LinesKept s t ∧ Changes dt [.icu, .flm, .pif] s t
    (r.openWire = false →
      ∃ t, exec (.openWireAppear dt w) s = .next t ∧ kept t ∧ t.flm = s.flm ∧ (t.wheel w).openWire = true ∧
        (t.wheel w).published = r.published ∧
        (r.state = .valid → (t.wheel w).state = .hold ∧
          (t.wheel w).holdDeadline = some (after now s.brake.inHoldTime)) ∧
        (r.state = .settling → (t.wheel w).state = .settling ∧
          (t.wheel w).holdDeadline = some (after now s.brake.inHoldTime)) ∧
        (r.state = .lost → (t.wheel w).state = .lost ∧ (t.wheel w).recoveryEnd = none)) ∧
    (r.openWire = true →
      ∃ t, exec (.openWireDisappear dt w) s = .next t ∧ kept t ∧ t.flm = s.flm ∧ (t.wheel w).openWire = false ∧
        (r.state = .hold → (t.wheel w).state = .valid ∧ (t.wheel w).published = r.computed ∧
          (t.wheel w).holdDeadline = none) ∧
        (r.state = .settling → (t.wheel w).state = .settling ∧ (t.wheel w).holdDeadline = none) ∧
        (r.state = .lost → (t.wheel w).state = .lost ∧ (t.wheel w).recoveryEnd = some (after now 100))) ∧
    (∀ d, r.state = .hold ∨ r.state = .settling → r.holdDeadline = some d → reached now d = true →
      ∃ t, exec (.wheelHoldExpiry dt w) s = .next t ∧ kept t ∧
        t.wheel w = { r with state := .lost, published := 0, holdDeadline := none, recoveryEnd := none } ∧
        t.faulted (.wheelSpeedLost w) = true) ∧
    (∀ d, r.state = .lost → r.recoveryEnd = some d → reached now d = true →
      ∃ t, exec (.wheelRecoveryExpiry dt w) s = .next t ∧ kept t ∧
        t.wheel w = { r with state := .settling, published := 0, recoveryEnd := none } ∧
        t.faulted (.wheelSpeedLost w) = false)

/-- R22, R23, ANALOG_SAMPLE and INPUT_HOLD_EXPIRY of VSOL: while SUPPLY_LOW is not raised, a publication below
`vsol_min`, or one that finds VSOL LOST, starts the low timer of 20 ms where it is stopped, and one at or above
`vsol_min`, or in SETTLING, stops it; while it is raised, a publication above `vsol_min` + 1000 mV starts the clear
timer of 500 ms where it is stopped, and any other stops it. A running timer keeps its expiry. R22, R23, R94,
SUPPLY_LOW_TIMER_EXPIRY and SUPPLY_CLEAR_TIMER_EXPIRY: SUPPLY_LOW is raised and puts the demand in PASSTHROUGH with
every channel released; 500 ms above the clear threshold clear it, and the demand stays. -/
def Obligations.SupplyIsMonitored : Prop :=
  (∀ (dt : Delay) (x : Int) (o : Bool) (s : State),
      let now := (s.tick dt).now
      let judged := fun (t : State) =>
        let v := t.input .vsol
        let published := v.state = .valid ∨ v.state = .hold
        (s.icu.supplyLow = false →
          ((published ∧ v.filtered < s.brake.vsolMin) ∨ v.state = .lost →
            t.icu.lowTimer = some (match s.icu.lowTimer with | some e => e | none => after now 20)) ∧
          ((published ∧ s.brake.vsolMin ≤ v.filtered) ∨ v.state = .settling → t.icu.lowTimer = none) ∧
          t.icu.clearTimer = s.icu.clearTimer) ∧
        (s.icu.supplyLow = true →
          (published → s.brake.vsolMin + 1000 < v.filtered →
            t.icu.clearTimer = some (match s.icu.clearTimer with | some e => e | none => after now 500)) ∧
          (¬published ∨ v.filtered ≤ s.brake.vsolMin + 1000 → t.icu.clearTimer = none) ∧
          t.icu.lowTimer = s.icu.lowTimer) ∧
        t.icu.supplyLow = s.icu.supplyLow ∧ t.icu.vsolMin = s.brake.vsolMin ∧
        t.faulted .supplyLow = s.faulted .supplyLow ∧ t.dar = s.dar ∧ t.icu.wheels = s.icu.wheels ∧
        (∀ j, j ≠ .vsol → t.input j = s.input j) ∧ t.cfs = s.cfs ∧ t.leu.cal = s.leu.cal ∧ TyresKept s t ∧
        LinesKept s t ∧ t.clock = s.clock.advance dt ∧ t.pending = s.pending
      (∃ t, exec (.analogSample dt .vsol x o) s = .next t ∧ judged t) ∧
      (∀ d, (s.input .vsol).state = .hold → (s.input .vsol).holdDeadline = some d → reached now d = true →
        ∃ t, exec (.inputHoldExpiry dt .vsol) s = .next t ∧ (t.input .vsol).state = .lost ∧ judged t)) ∧
  ∀ (dt : Delay) (s : State) (d : Stamp),
    (s.icu.supplyLow = false → s.icu.lowTimer = some d → reached (s.tick dt).now d = true → noCommit s = true →
      DemandOk s → ChannelsOk s →
      ∃ t, exec (.supplyLowTimerExpiry dt) s = .next t ∧ t.icu = { s.icu with supplyLow := true, lowTimer := none } ∧
        t.faulted .supplyLow = true ∧ t.dar.mode = .passthrough ∧ t.dar.startWait = false ∧
        (∀ k, (t.ctrl k).clearVote = false) ∧
        (∀ c, (t.chan c).state = .passthrough ∧ (t.chan c).action = .release) ∧
        t.cfs = s.cfs ∧ t.leu.cal = s.leu.cal ∧ TyresKept s t ∧ LinesKept s t ∧
        t.clock = s.clock.advance dt ∧ t.pending = s.pending) ∧
    (s.icu.supplyLow = true → s.icu.clearTimer = some d → reached (s.tick dt).now d = true →
      ∃ t, exec (.supplyClearTimerExpiry dt) s = .next t ∧ t.icu.supplyLow = false ∧ t.icu.clearTimer = none ∧
        t.icu.inputs = s.icu.inputs ∧ t.icu.wheels = s.icu.wheels ∧ t.faulted .supplyLow = false ∧
        t.dar = s.dar ∧ t.cfs = s.cfs ∧ t.leu.cal = s.leu.cal ∧ TyresKept s t ∧ LinesKept s t ∧
        t.clock = s.clock.advance dt ∧ t.pending = s.pending)

/-! ## Tyres (chapter 2) -/

/-- R25 to R27, TELEGRAM_LINE_BYTE, TELEGRAM_LENGTH_REJECTED, TELEGRAM_GAP_TIMEOUT and TELEGRAM_FRAMING_ERROR: a
length byte of 4 to 16 opens a frame with a gap of 5 ms, any other is discarded and counted; a byte within a frame
joins it, and the check byte completes it; a gap or a framing error abandons it, and counts nothing. Nothing but the
line and the count changes. -/
def Obligations.TelegramLineRuns : Prop :=
  ∀ (dt : Delay) (b : Byte) (s : State),
    (s.ttr.rx = none → 4 ≤ b.toNat → b.toNat ≤ 16 →
      exec (.telegramLineByte dt b) s = .next { s.tick dt with ttr := { s.ttr with
        rx := some [b]
        gapDeadline := some (after (s.tick dt).now 5) } }) ∧
    (s.ttr.rx = none → b.toNat < 4 ∨ 16 < b.toNat →
      exec (.telegramLengthRejected dt b) s = .next { s.tick dt with ttr := { s.ttr with
        formatRejected := if s.ttr.formatRejected < 65535 then s.ttr.formatRejected + 1 else s.ttr.formatRejected } } ∧
      exec (.telegramLineByte dt b) s = exec (.telegramLengthRejected dt b) s) ∧
    (∀ f, s.ttr.rx = some f → f.length + 1 < (f.headD 0).toNat + 3 →
      exec (.telegramLineByte dt b) s = .next { s.tick dt with ttr := { s.ttr with
        rx := some (f ++ [b])
        gapDeadline := some (after (s.tick dt).now 5) } }) ∧
    (∀ f, s.ttr.rx = some f → (f.headD 0).toNat + 3 ≤ f.length + 1 →
      exec (.telegramLineByte dt b) s = exec (.telegramFrame dt b) s) ∧
    (∀ d, s.ttr.rx.isSome = true → s.ttr.gapDeadline = some d → reached (s.tick dt).now d = true →
      exec (.telegramGapTimeout dt) s =
        .next { s.tick dt with ttr := { s.ttr with rx := none, gapDeadline := none } }) ∧
    exec (.telegramFramingError dt) s = .next { s.tick dt with ttr := { s.ttr with rx := none, gapDeadline := none } }

/-- R26, R27, R30, R33, R35, R36, R44, TELEGRAM_FRAME: the check byte completes a frame. One whose bytes do not sum
to 0 is counted and dropped; one that no profile matches is counted format-rejected; a telegram of a bound ID, with
no learn open, is served to its position alone; one of an unbound ID heads the stranger list. R28: a field is the
number its bits form, the bit at its offset first. R30: the lowest-numbered profile that is enabled, of the
payload's length and with its marker in place matches. R31: the decoded fields. R35, R39 to R41 and R43, serving:
the record takes the telegram's values; HOT is set above `hot_limit`, kept down to 5 below it, and kept without a
temperature; 30 kPa more than before empties the ring and clears LEAK; a sample is taken into an empty ring or after
`trend_interval`, older ones than `leak_window` leaving, then the oldest of 8; LEAK is then set by 4 samples with a
drop of `leak_drop`, and cleared below half of it; the acknowledged set goes with a worse level, a new HOT, a new
LEAK, or no alarm. -/
def Obligations.TelegramIsTaken : Prop :=
  ((∀ (payload : List Byte) (offset width : Nat), offset + width ≤ 8 * payload.length →
      bitField payload offset width = (List.range width).foldl (fun n i =>
        2 * n + if (payload.getD ((offset + i) / 8) 0#8).getLsbD (7 - (offset + i) % 8) = true then 1 else 0) 0) ∧
    (∀ (p : TyreSet) (payload : List Byte),
      let fits := fun (k : Nat) => (p.profile k).enabled = true ∧ (p.profile k).length = payload.length ∧
        bitField payload (p.profile k).markerOff (p.profile k).markerWidth = (p.profile k).markerValue
      (∀ k, matchProfile p payload = some k ↔ k < 4 ∧ fits k ∧ ∀ j, j < k → ¬fits j) ∧
      (matchProfile p payload = none ↔ ∀ k, k < 4 → ¬fits k)) ∧
    ∀ (q : Profile) (k : Nat) (payload : List Byte) (strength : Byte) (now : Stamp),
      let g := q.decode k payload strength now
      (q.idWidth ≤ 32 → g.id.toNat = bitField payload q.idOff q.idWidth) ∧ g.profile = k ∧
      g.pressure = max 0 (min 1500
        (((bitField payload q.pressOff q.pressWidth : Int) * q.pressStep).tdiv 16 + q.pressBias)) ∧
      (q.tempWidth = 0 → g.temperature = none) ∧
      (0 < q.tempWidth → g.temperature =
        some (max (-40) (min 150 ((bitField payload q.tempOff q.tempWidth : Int) + q.tempBias)))) ∧
      (g.alert = true ↔ ∃ o, q.alertOff = some o ∧ bitField payload o 1 = 1) ∧
      (g.lowBattery = true ↔ ∃ o, q.lowBattOff = some o ∧ bitField payload o 1 = 1) ∧
      g.strength = strength ∧ g.time = now) ∧
  (∀ (p : TyreSet) (y : Tyre) (g : Telegram) (r : TyreRec),
      let t := r.serve p y g
      let comp := compensate g.pressure g.temperature
      let again := ∃ x, r.compensated = some x ∧ x + 30 ≤ comp
      t = { r with
        state := .live
        profile := some g.profile
        pressure := some g.pressure
        temperature := g.temperature
        compensated := some comp
        strength := some g.strength
        lastTime := some g.time
        missingDeadline := some (after g.time p.missingTimeout)
        deadlineBase := some g.time
        lowBattery := g.lowBattery
        level := judgeLevel p y g.pressure comp r.level
        hot := t.hot
        leak := t.leak
        acked := t.acked
        trend := t.trend } ∧
      (g.temperature = none → t.hot = r.hot) ∧
      (∀ T, g.temperature = some T →
        (t.hot = true ↔ p.hotLimit < T ∨ (r.hot = true ∧ p.hotLimit - 5 < T))) ∧
      (∀ ring leak, (again → ring = [] ∧ leak = false) → (¬again → ring = r.trend ∧ leak = r.leak) →
        let due := ∀ newest, ring.getLast? = some newest → p.trendInterval ≤ since g.time newest.1
        let kept := ring.filter fun q => decide (since g.time q.1 ≤ p.leakWindow)
        (¬due → t.trend = ring ∧ t.leak = leak) ∧
        (due → kept.length < 8 → t.trend = kept ++ [(g.time, comp)]) ∧
        (due → kept.length = 8 → t.trend = kept.drop 1 ++ [(g.time, comp)]) ∧
        (∀ oldest, due → t.trend.head? = some oldest →
          (leak = false → (t.leak = true ↔ 4 ≤ t.trend.length ∧ p.leakDrop ≤ oldest.2 - comp)) ∧
          (leak = true → (t.leak = false ↔ oldest.2 - comp < p.leakDrop.tdiv 2)))) ∧
      (r.acked = none → t.acked = none) ∧
      (∀ a, r.acked = some a →
        let lost := a.level.rank < t.level.rank ∨ (r.hot = false ∧ t.hot = true) ∨ (r.leak = false ∧ t.leak = true) ∨
          (t.level = .none ∧ t.hot = false ∧ t.leak = false)
        (lost → t.acked = none) ∧ (¬lost → t.acked = some a))) ∧
  ∀ (dt : Delay) (b : Byte) (f : List Byte) (s : State),
    s.ttr.rx = some f → f.length + 1 = (f.headD 0).toNat + 3 → 2 ≤ f.length →
    let frame := f ++ [b]
    let payload := (frame.drop 1).take (frame.length - 3)
    let inc := fun n => if n < 65535 then n + 1 else n
    ∃ t, exec (.telegramFrame dt b) s = .next t ∧ t.ttr.rx = none ∧ t.ttr.gapDeadline = none ∧ LinesKept s t ∧
      Changes dt [.ttr, .cfs, .lac, .leu, .rsu, .channels, .chc, .flm, .pif] s t ∧
      (frame.foldl (· + ·) 0#8 ≠ 0#8 →
        t.ttr.checkRejected = inc s.ttr.checkRejected ∧ t.ttr.formatRejected = s.ttr.formatRejected ∧
        t.ttr.accepted = s.ttr.accepted ∧ t.ttr.tyres = s.ttr.tyres ∧ t.ttr.strangers = s.ttr.strangers ∧
        t.cfs = s.cfs) ∧
      (frame.foldl (· + ·) 0#8 = 0#8 → matchProfile s.tyreSet payload = none →
        t.ttr.formatRejected = inc s.ttr.formatRejected ∧ t.ttr.checkRejected = s.ttr.checkRejected ∧
        t.ttr.accepted = s.ttr.accepted ∧ t.ttr.tyres = s.ttr.tyres ∧ t.ttr.strangers = s.ttr.strangers ∧
        t.cfs = s.cfs) ∧
      (∀ k, frame.foldl (· + ·) 0#8 = 0#8 → matchProfile s.tyreSet payload = some k → s.ttr.learn.slot = none →
        let g := (s.tyreSet.profile k).decode k payload (frame.getD (frame.length - 2) 0) (s.tick dt).now
        t.ttr.accepted = inc s.ttr.accepted ∧ t.ttr.checkRejected = s.ttr.checkRejected ∧
        t.ttr.formatRejected = s.ttr.formatRejected ∧ t.cfs = s.cfs ∧
        (∀ y, s.boundTo g.id = some y →
          t.tyre y = (s.tyre y).serve s.tyreSet y g ∧ (t.tyre y).state = .live ∧
          (t.tyre y).pressure = some g.pressure ∧
          (t.tyre y).compensated = some (compensate g.pressure g.temperature) ∧
          (t.tyre y).level = judgeLevel s.tyreSet y g.pressure (compensate g.pressure g.temperature) (s.tyre y).level ∧
          (t.tyre y).missingDeadline = some (after (s.tick dt).now s.tyreSet.missingTimeout) ∧
          (∀ z, z ≠ y → t.tyre z = s.tyre z) ∧ t.ttr.strangers = s.ttr.strangers) ∧
        (s.boundTo g.id = none →
          t.ttr.tyres = s.ttr.tyres ∧ t.ttr.strangerCount = inc s.ttr.strangerCount ∧
          ∃ e l, t.ttr.strangers = e :: l ∧ e.id = g.id ∧ e.pressure = g.pressure ∧ e.lastSeen = (s.tick dt).now))

/-- R36: the compensated pressure is the quotient rounded to nearest, less 101, and the pressure itself where there
is no temperature, which counts as 20 °C. R38: the new pressure alarm level is the worst that is held, a level being
held where its entry condition holds, or where it, or a worse level of its side, stood before and its clear
condition does not hold. R37, R38: the levels written out. The thresholds are the axle's cold pressure times a
fraction of 1024, rounded toward zero, and the flat limit; each level is entered past its threshold and left 10 kPa
past it. -/
def Obligations.TyrePressureIsJudged : Prop :=
  ((∀ p T : Int, 0 < T + 273 →
      let r := compensate p (some T) + 101
      2 * ((p + 101) * 293) - (T + 273) < 2 * (T + 273) * r ∧
      2 * (T + 273) * r ≤ 2 * ((p + 101) * 293) + (T + 273)) ∧
    ∀ p : Int, compensate p none = p) ∧
  (∀ (p : TyreSet) (y : Tyre) (gauge comp : Int) (before : Level),
      let new := judgeLevel p y gauge comp before
      (new ≠ .none → Level.held p y gauge comp before new = true) ∧
      ∀ l, l ≠ .none → Level.held p y gauge comp before l = true → l.rank ≤ new.rank) ∧
  (∀ (p : TyreSet) (y : Tyre) (gauge comp : Int) (before : Level),
      let ref := match wheelOf y with
        | .w1L | .w1R => p.value 0
        | .w2L | .w2R => p.value 1
        | .w3L | .w3R => p.value 2
      let crit := (ref * p.lowCritFrac).tdiv 1024
      let warn := (ref * p.lowWarnFrac).tdiv 1024
      let high := (ref * p.highFrac).tdiv 1024
      (Level.held p y gauge comp before .flat = true ↔
        gauge < p.flatLimit ∨ (before = .flat ∧ gauge < p.flatLimit + 10)) ∧
      (Level.held p y gauge comp before .lowCrit = true ↔
        comp < crit ∨ ((before = .flat ∨ before = .lowCrit) ∧ comp < crit + 10)) ∧
      (Level.held p y gauge comp before .lowWarn = true ↔
        comp < warn ∨ ((before = .flat ∨ before = .lowCrit ∨ before = .lowWarn) ∧ comp < warn + 10)) ∧
      (Level.held p y gauge comp before .high = true ↔ high < comp ∨ (before = .high ∧ high - 10 < comp)))

/-- R45, LEARN: a position above 11 is BAD_ARGUMENT and an occupied slot BUSY; an empty slot takes the position, the
port and its deadline, LEARN_OPEN becomes true, and no record changes. That the position is judged before the slot
is the model's choice, log entry 40. R48, R47, UNBIND: a position above 11 is BAD_ARGUMENT; otherwise the record is
cleared, BINDINGS is dirty or its write has begun where an ID was bound, and a learn open for the position is
cancelled. R46, R33, TELEGRAM_FRAME with a learn open: an ALERT of an ID that is bound nowhere, or at the slot's own
position, binds. The record at the slot's position is cleared, takes the ID and is served the telegram from level
NONE and an empty ring; no other record changes, and no other position holds the ID; the stranger entry of the ID
goes, BINDINGS is dirty or its write has begun, and the slot empties with outcome BOUND. Any other telegram leaves
the learn open. Of an SPI port with no transaction begun the answer rests on log entry 5. -/
def Obligations.PositionsAreBoundAndCleared : Prop :=
  (∀ (dt : Delay) (p : Port) (g : Option Guard) (b : Byte) (s : State),
      accepted p .learn g [b] s = true →
      (11 < b.toNat →
        ∃ t, exec (.learn dt p g [b]) s = .next t ∧ TurnedAway dt p .learn (.refused .badArgument) s t) ∧
      (∀ y, Tyre.list[b.toNat]? = some y → s.ttr.learn.slot.isSome = true →
        ∃ t, exec (.learn dt p g [b]) s = .next t ∧ TurnedAway dt p .learn (.refused .busy) s t) ∧
      (∀ y, Tyre.list[b.toNat]? = some y → s.ttr.learn.slot = none →
        ∃ t, exec (.learn dt p g [b]) s = .next t ∧ Done p .learn (.done []) s t ∧
          t.ttr = { s.ttr with learn := { s.ttr.learn with
            slot := some ⟨y, p, (s.tick dt).now, after (s.tick dt).now s.tyreSet.learnTimeout⟩ } } ∧
          holds .learnOpen t = true ∧ Changes dt [.ttr, .pif] s t)) ∧
  (∀ (dt : Delay) (p : Port) (g : Option Guard) (b : Byte) (s : State),
      accepted p .unbind g [b] s = true →
      (11 < b.toNat →
        ∃ t, exec (.unbind dt p g [b]) s = .next t ∧ TurnedAway dt p .unbind (.refused .badArgument) s t) ∧
      (∀ y, Tyre.list[b.toNat]? = some y →
        ∃ t, exec (.unbind dt p g [b]) s = .next t ∧ Done p .unbind (.done []) s t ∧
          t.tyre y = ⟨none, .unbound, none, none, none, none, none, none, none, none, false, .none, false, false, none,
            []⟩ ∧
          (∀ z, z ≠ y → t.tyre z = s.tyre z) ∧
          ((s.tyre y).bound = none → t.cfs = s.cfs) ∧
          ((s.tyre y).bound ≠ none → (t.sect .bindings).dirty = true ∨
            ∃ q, t.cfs.write = some ⟨.bindings, .bindings q⟩ ∧ q.get y = none) ∧
          (∀ x, s.ttr.learn.slot = some x → x.position = y →
            t.ttr.learn = ⟨none, .cancelled, some y, none, some (s.tick dt).now⟩) ∧
          (∀ x, s.ttr.learn.slot = some x → x.position ≠ y → t.ttr.learn = s.ttr.learn) ∧
          t.ttr.strangers = s.ttr.strangers ∧
          Changes dt [.ttr, .cfs, .lac, .leu, .rsu, .channels, .chc, .flm, .pif] s t)) ∧
  (∀ (dt : Delay) (b : Byte) (f : List Byte) (s : State) (k : Nat) (x : LearnSlot),
      s.ttr.rx = some f → f.length + 1 = (f.headD 0).toNat + 3 → 2 ≤ f.length → s.ttr.learn.slot = some x →
      let frame := f ++ [b]
      let payload := (frame.drop 1).take (frame.length - 3)
      frame.foldl (· + ·) 0#8 = 0#8 → matchProfile s.tyreSet payload = some k →
      let now := (s.tick dt).now
      let g := (s.tyreSet.profile k).decode k payload (frame.getD (frame.length - 2) 0) now
      let y := x.position
      let comp := compensate g.pressure g.temperature
      let binds := g.alert = true ∧ (s.boundTo g.id = none ∨ s.boundTo g.id = some y)
      ∃ t, exec (.telegramFrame dt b) s = .next t ∧ LinesKept s t ∧
        Changes dt [.ttr, .cfs, .lac, .leu, .rsu, .channels, .chc, .flm, .pif] s t ∧
        t.ttr.accepted = (if s.ttr.accepted < 65535 then s.ttr.accepted + 1 else s.ttr.accepted) ∧
        (binds →
          t.tyre y =
            { bound := some g.id
              state := .live
              profile := some k
              pressure := some g.pressure
              temperature := g.temperature
              compensated := some comp
              strength := some g.strength
              lastTime := some now
              missingDeadline := some (after now s.tyreSet.missingTimeout)
              deadlineBase := some now
              lowBattery := g.lowBattery
              level := judgeLevel s.tyreSet y g.pressure comp .none
              hot := judgeHot s.tyreSet g.temperature false
              leak := false
              acked := none
              trend := [(now, comp)] } ∧
          (∀ z, z ≠ y → t.tyre z = s.tyre z) ∧
          (TyresOk s → ∀ z, (t.tyre z).bound = some g.id → z = y) ∧
          t.ttr.strangers = s.ttr.strangers.filter (fun e => e.id != g.id) ∧
          t.ttr.strangerCount = s.ttr.strangerCount ∧
          ((t.sect .bindings).dirty = true ∨ ∃ q, t.cfs.write = some ⟨.bindings, .bindings q⟩ ∧ q.get y = some g.id) ∧
          t.ttr.learn = ⟨none, .bound, some y, some g.id, some now⟩ ∧ holds .learnOpen t = false) ∧
        (¬binds → t.ttr.learn = s.ttr.learn ∧ t.cfs = s.cfs ∧
          (s.boundTo g.id = none → t.ttr.tyres = s.ttr.tyres ∧ ∃ e l, t.ttr.strangers = e :: l ∧ e.id = g.id) ∧
          ∀ z, s.boundTo g.id = some z → t.tyre z = (s.tyre z).serve s.tyreSet z g ∧
            (∀ w, w ≠ z → t.tyre w = s.tyre w) ∧ t.ttr.strangers = s.ttr.strangers))

/-- R42, TYRE_ACK_SET and TYRE_ACK_CLEAR: a mask beyond the twelve positions is BAD_ARGUMENT; otherwise each named
record with an alarm takes its alarms as acknowledged, or each named record loses its acknowledgement, and no other
field and no other record changes. Of an SPI port with no transaction begun the answer rests on log entry 5. -/
def Obligations.AlarmsAreAcknowledged : Prop :=
  ∀ (dt : Delay) (p : Port) (g : Option Guard) (hi lo : Byte) (s : State),
    let m := 256 * hi.toNat + lo.toNat
    (accepted p .tyreAckSet g [hi, lo] s = true → 4096 ≤ m →
      ∃ t, exec (.tyreAckSet dt p g [hi, lo]) s = .next t ∧
        TurnedAway dt p .tyreAckSet (.refused .badArgument) s t) ∧
    (accepted p .tyreAckClear g [hi, lo] s = true → 4096 ≤ m →
      ∃ t, exec (.tyreAckClear dt p g [hi, lo]) s = .next t ∧
        TurnedAway dt p .tyreAckClear (.refused .badArgument) s t) ∧
    (accepted p .tyreAckSet g [hi, lo] s = true → m < 4096 →
      ∃ t, exec (.tyreAckSet dt p g [hi, lo]) s = .next t ∧ Done p .tyreAckSet (.done []) s t ∧
        (∀ y, t.tyre y = if m.testBit (tyrePos y) = true ∧ (s.tyre y).hasAlarm = true then
          { s.tyre y with acked := some ⟨(s.tyre y).level, (s.tyre y).hot, (s.tyre y).leak⟩ } else s.tyre y) ∧
        t.ttr = { s.ttr with tyres := t.ttr.tyres } ∧ Changes dt [.ttr, .pif] s t) ∧
    (accepted p .tyreAckClear g [hi, lo] s = true → m < 4096 →
      ∃ t, exec (.tyreAckClear dt p g [hi, lo]) s = .next t ∧ Done p .tyreAckClear (.done []) s t ∧
        (∀ y, t.tyre y = if m.testBit (tyrePos y) = true then { s.tyre y with acked := none } else s.tyre y) ∧
        t.ttr = { s.ttr with tyres := t.ttr.tyres } ∧ Changes dt [.ttr, .pif] s t)

/-- R34, R47, R51, MISSING_DEADLINE_EXPIRY, LEARN_DEADLINE_EXPIRY and DRAG_TIMER_EXPIRY: a record goes MISSING and
keeps its readings; a learn fails at its deadline; a wheel end hot for 60 s without brake has BRAKE_DRAG. -/
def Obligations.TyreTimersRun : Prop :=
  ∀ (dt : Delay) (s : State) (d : Stamp),
    (∀ y, (s.tyre y).missingDeadline = some d → reached (s.tick dt).now d = true →
      ∃ t, exec (.missingDeadlineExpiry dt y) s = .next t ∧
        t.tyre y = { s.tyre y with state := .missing, missingDeadline := none, deadlineBase := none } ∧
        (∀ z, z ≠ y → t.tyre z = s.tyre z) ∧ t.ttr.strangers = s.ttr.strangers ∧ t.ttr.learn = s.ttr.learn ∧
        LinesKept s t ∧ Changes dt [.ttr, .lac, .leu, .rsu, .channels, .chc, .flm, .pif] s t) ∧
    (∀ x, s.ttr.learn.slot = some x → x.deadline = d → reached (s.tick dt).now d = true →
      ∃ t, exec (.learnDeadlineExpiry dt) s = .next t ∧
        t.ttr = { s.ttr with learn := ⟨none, .failed, some x.position, none, some d⟩ } ∧
        LinesKept s t ∧ Changes dt [.ttr, .pif] s t) ∧
    (∀ w, (s.wheelTyre w).drag = .running d → 60000 ≤ since (s.tick dt).now d →
      ∃ t, exec (.dragTimerExpiry dt w) s = .next t ∧
        t.ttr = { s.ttr with wheels := s.ttr.wheels.set w { s.wheelTyre w with drag := .full, dragFlag := true } } ∧
        t.faulted (.brakeDrag w) = true ∧ LinesKept s t ∧ Changes dt [.ttr, .flm, .pif] s t)

/-! ## Loads and lift axle (chapter 3) -/

/-- R64, CAL_OPEN: BUSY where a session is open; WRONG_STATE without standstill, E of 0 or lift state DOWN;
otherwise the session opens with an empty capture table and every result NONE. Of an SPI port with no transaction
begun the answer rests on log entry 5. -/
def Obligations.SessionOpens : Prop :=
  ∀ (dt : Delay) (p : Port) (g : Option Guard) (s : State), accepted p .calOpen g [] s = true →
    let allowed := (s.chc.ref.mark ≠ .lost ∧ s.chc.ref.val < 20) ∧ s.dar.e.val = 0 ∧ s.lac.state = .down
    (s.leu.sessionOpen = true →
      ∃ t, exec (.calOpen dt p g []) s = .next t ∧ TurnedAway dt p .calOpen (.refused .busy) s t) ∧
    (s.leu.sessionOpen = false → ¬allowed →
      ∃ t, exec (.calOpen dt p g []) s = .next t ∧ TurnedAway dt p .calOpen (.refused .wrongState) s t) ∧
    (s.leu.sessionOpen = false → allowed →
      ∃ t, exec (.calOpen dt p g []) s = .next t ∧ Done p .calOpen (.done []) s t ∧
        t.leu = { s.leu with sessionOpen := true, captures := .all ⟨none, none⟩, results := .all .none } ∧
        holds .calOpen t = true ∧ Changes dt [.leu, .pif] s t)

/-- R65, R68, CAL_CAPTURE and CAL_CLOSE: in an open session whose source inputs are VALID each sensor of the set
takes its pressure and the load figure at the named point, PBR taking PBL's pressure with the mirror flag, which
puts both into the set; a point or a flag other than 0 and 1, an empty set or one that names another sensor, a load
figure above 12000, or above 10000 with PBX in the set, is refused with BAD_ARGUMENT, in an open session or not (the
order of the two refusals is the model's choice, log entry 28); a close empties the table and ends the session, and
changes nothing where none is open. That an empty sensor set with the mirror flag stands for PBL and PBR is the
model's choice, log entry 28. Of an SPI port with no transaction begun the answer rests on log entry 5. -/
def Obligations.CapturesAreRecorded : Prop :=
  (∀ (dt : Delay) (p : Port) (g : Option Guard) (set point hi lo mirror : Byte) (s : State),
    let l := [set, point, hi, lo, mirror]
    let load := 256 * hi.toNat + lo.toNat
    let legal := set.toNat ≤ 7 ∧ point.toNat ≤ 1 ∧ mirror.toNat ≤ 1 ∧ (set = 0#8 → mirror = 1#8) ∧ load ≤ 12000 ∧
      (set.toNat.testBit 2 = true → load ≤ 10000)
    (legal → ∃ q, readCapture l = some q ∧ q.load = load ∧ (q.laden = true ↔ point = 1#8) ∧
      (q.mirror = true ↔ mirror = 1#8) ∧
      ∀ b, b ∈ q.sensors ↔ (mirror = 1#8 ∧ b ≠ .pbx) ∨
        set.toNat.testBit (match b with | .pbl => 0 | .pbr => 1 | .pbx => 2) = true) ∧
    (¬legal → accepted p .calCapture g l s = true →
      ∃ t, exec (.calCapture dt p g l) s = .next t ∧ TurnedAway dt p .calCapture (.refused .badArgument) s t)) ∧
  (∀ (dt : Delay) (p : Port) (g : Option Guard) (l : List Byte) (q : Capture) (s : State),
    accepted p .calCapture g l s = true → readCapture l = some q →
    let source := fun (b : Bellows) => if q.mirror = true ∧ b = .pbr then InputId.pbl else bellowsInput b
    let ready := s.leu.sessionOpen = true ∧ ∀ b ∈ q.sensors, (s.input (source b)).state = .valid
    (¬ready →
      ∃ t, exec (.calCapture dt p g l) s = .next t ∧ TurnedAway dt p .calCapture (.refused .wrongState) s t) ∧
    (ready →
      ∃ t, exec (.calCapture dt p g l) s = .next t ∧ Done p .calCapture (.done []) s t ∧ QueuesKept s t ∧
        t.leu = { s.leu with captures := t.leu.captures } ∧
        (∀ b, t.leu.captures.get b =
          if b ∈ q.sensors then
            (if q.laden then { s.leu.captures.get b with laden := some ((s.input (source b)).filtered, q.load) }
             else { s.leu.captures.get b with empty := some ((s.input (source b)).filtered, q.load) })
          else s.leu.captures.get b) ∧
        Changes dt [.leu, .pif] s t)) ∧
  ∀ (dt : Delay) (p : Port) (g : Option Guard) (s : State), accepted p .calClose g [] s = true →
    ∃ t, exec (.calClose dt p g []) s = .next t ∧ Done p .calClose (.done []) s t ∧
      t.leu = (if s.leu.sessionOpen then
        { s.leu with
          sessionOpen := false
          captures := .all ⟨none, none⟩
          lastEnd := .closed
          lastEndTime := some (s.tick dt).now }
        else s.leu) ∧
      Changes dt [.leu, .pif] s t

/-- R66, CAL_APPLY: without an open session WRONG_STATE; in one it is answered DONE with the three results, each
sensor with a capture is judged, an accepted candidate becomes its record with result DONE and a rejected one gives
BAD, and the captures are removed. R67, CAL_REVERT: an empty sensor set, or one that names another sensor, is
BAD_ARGUMENT, in an open session or not (the order of the two refusals is the model's choice, log entry 28); without
an open session WRONG_STATE; in one it is answered DONE, each named sensor takes its factory record, confirmed, with
result DONE, and loses its captures. Of an SPI port with no transaction begun the answer rests on log entry 5. -/
def Obligations.CalibrationsAreApplied : Prop :=
  ∀ (dt : Delay) (p : Port) (g : Option Guard) (s : State),
    (accepted p .calApply g [] s = true → s.leu.sessionOpen = false →
      ∃ t, exec (.calApply dt p g []) s = .next t ∧ TurnedAway dt p .calApply (.refused .wrongState) s t) ∧
    (accepted p .calApply g [] s = true → s.leu.sessionOpen = true → LoadsOk s → LiftOk s →
      ∃ t, exec (.calApply dt p g []) s = .next t ∧
        Done p .calApply (.done [byteOf t.leu.results.pbl.pos, byteOf t.leu.results.pbr.pos,
          byteOf t.leu.results.pbx.pos]) s t ∧ t.leu.sessionOpen = true ∧
        (∀ b, let c := s.leu.captures.get b
          let q := candidateOf (s.leu.cal.get b) c
          (c = ⟨none, none⟩ →
            t.leu.cal.get b = s.leu.cal.get b ∧ t.leu.results.get b = s.leu.results.get b) ∧
          (c ≠ ⟨none, none⟩ → 50 ≤ q.pLaden - q.pEmpty → q.loadEmpty < q.loadLaden →
            t.leu.cal.get b = q ∧ t.leu.results.get b = .done ∧
            ((t.sect .calibration).dirty = true ∨ t.cfs.write = some ⟨.calibration, .calibration t.leu.cal⟩)) ∧
          (c ≠ ⟨none, none⟩ → q.pLaden - q.pEmpty < 50 ∨ q.loadLaden ≤ q.loadEmpty →
            t.leu.cal.get b = s.leu.cal.get b ∧ t.leu.results.get b = .bad) ∧
          t.leu.captures.get b = ⟨none, none⟩) ∧
        t.cfs.brake = s.cfs.brake ∧ t.cfs.tyre = s.cfs.tyre ∧ t.cfs.commit = s.cfs.commit ∧ TyresKept s t ∧
        Changes dt [.leu, .cfs, .rsu, .lac, .channels, .chc, .ttr, .flm, .pif] s t) ∧
    (∀ b, accepted p .calRevert g [b] s = true → b.toNat = 0 ∨ 7 < b.toNat →
      ∃ t, exec (.calRevert dt p g [b]) s = .next t ∧ TurnedAway dt p .calRevert (.refused .badArgument) s t) ∧
    (∀ b, accepted p .calRevert g [b] s = true → 1 ≤ b.toNat → b.toNat ≤ 7 → s.leu.sessionOpen = false →
      ∃ t, exec (.calRevert dt p g [b]) s = .next t ∧ TurnedAway dt p .calRevert (.refused .wrongState) s t) ∧
    (∀ b, accepted p .calRevert g [b] s = true → 1 ≤ b.toNat → b.toNat ≤ 7 → s.leu.sessionOpen = true →
      LoadsOk s → LiftOk s →
      ∃ t, exec (.calRevert dt p g [b]) s = .next t ∧ Done p .calRevert (.done []) s t ∧ t.leu.sessionOpen = true ∧
        (∀ x, if b.toNat.testBit (match x with | .pbl => 0 | .pbr => 1 | .pbx => 2) = true then
            t.leu.cal.get x = (match x with
              | .pbl | .pbr => ⟨150, 3000, 600, 9000, true⟩
              | .pbx => ⟨100, 1500, 550, 4500, true⟩) ∧
            t.leu.results.get x = .done ∧ t.leu.captures.get x = ⟨none, none⟩
          else t.leu.cal.get x = s.leu.cal.get x ∧ t.leu.results.get x = s.leu.results.get x ∧
            t.leu.captures.get x = s.leu.captures.get x) ∧
        ((t.sect .calibration).dirty = true ∨ t.cfs.write = some ⟨.calibration, .calibration t.leu.cal⟩) ∧
        t.cfs.brake = s.cfs.brake ∧ t.cfs.tyre = s.cfs.tyre ∧ t.cfs.commit = s.cfs.commit ∧ TyresKept s t ∧
        Changes dt [.leu, .cfs, .rsu, .lac, .channels, .chc, .ttr, .flm, .pif] s t)

/-- R61, RELEASE_TIMER_EXPIRY: FROZEN becomes FOLLOWING and each applied load takes its live load's value and mark
at once. -/
def Obligations.LoadsAreReleased : Prop :=
  ∀ (dt : Delay) (s : State) (d : Stamp),
    s.leu.frozen = true → s.leu.release = some d → s.brake.loadReleaseTime ≤ since (s.tick dt).now d →
    ∃ t, exec (.releaseTimerExpiry dt) s = .next t ∧ t.leu.frozen = false ∧ t.leu.release = none ∧
      t.leu.appMain = t.leu.liveMain ∧ t.leu.appLift = t.leu.liveLift ∧ t.leu.appTotal = t.leu.liveTotal ∧
      t.leu.sensor = s.leu.sensor ∧ t.leu.cal = s.leu.cal ∧
      (LoadsOk s → t.leu.liveMain = s.leu.liveMain) ∧ TyresKept s t ∧ LinesKept s t ∧
      Changes dt [.leu, .rsu, .lac, .channels, .chc, .ttr, .flm, .pif] s t

/-- R72: the eleven raise conditions, and the first that fails in the order of the list. R72, R73, R79,
LIFT_REQUEST: a raise is taken where lift state and raise conditions allow it, and refused with WRONG_STATE
otherwise, latched with what stood against it; a lower sets MANUAL and brings a raised axle down; AUTO and MANUAL
set the mode; any other argument is BAD_ARGUMENT. The premise is the machine's invariant: a state that meets it has
its loads and parameters such that no trigger of R77 reverses a raise at once. Of an SPI port with no transaction
begun the answer rests on log entry 5. -/
def Obligations.LiftRequestsAreJudged : Prop :=
  (∀ s : State,
      (raiseCondition s 1 = true ↔ s.chc.ref.mark ≠ .lost ∧ s.chc.ref.val < s.brake.raiseSpeedMax) ∧
      (raiseCondition s 2 = true ↔ s.dar.e.val = 0) ∧
      (raiseCondition s 3 = true ↔ s.leu.appMain.mark ≠ .lost ∧ s.leu.appMain.val < s.brake.raiseLoad) ∧
      (raiseCondition s 4 = true ↔ (s.wheelTyre .w2L).cond ≠ .flat ∧ (s.wheelTyre .w2R).cond ≠ .flat ∧
        (s.wheelTyre .w3L).cond ≠ .flat ∧ (s.wheelTyre .w3R).cond ≠ .flat) ∧
      (raiseCondition s 5 = true ↔ s.rsu.state = .watch ∨ s.rsu.state = .disabled ∨ s.rsu.state = .unavailable) ∧
      (raiseCondition s 6 = true ↔ (s.input .pbx).state = .valid ∨ (s.input .pbx).state = .hold) ∧
      (raiseCondition s 7 = true ↔ s.dar.mode ≠ .passthrough) ∧
      (raiseCondition s 8 = true ↔ s.faulted .airSupplyLow = false) ∧
      (raiseCondition s 9 = true ↔ s.faulted (.coilOpen .lift) = false ∧ s.faulted (.coilShort .lift) = false) ∧
      (raiseCondition s 10 = true ↔ ((s.input .pbl).state = .valid ∨ (s.input .pbl).state = .hold) ∧
        ((s.input .pbr).state = .valid ∨ (s.input .pbr).state = .hold)) ∧
      (raiseCondition s 11 = true ↔ s.faulted .supplyLow = false) ∧
      (firstFailing s = none ↔ ∀ n, 1 ≤ n → n ≤ 11 → raiseCondition s n = true) ∧
      ∀ n, firstFailing s = some n → 1 ≤ n ∧ n ≤ 11 ∧ raiseCondition s n = false ∧
        ∀ m, 1 ≤ m → m < n → raiseCondition s m = true) ∧
  (∀ (dt : Delay) (p : Port) (g : Option Guard) (b : Byte) (s : State), Inv s →
      accepted p .liftRequest g [b] s = true →
      let source := if p = .t then LiftSource.t else .a
      (3 < b.toNat →
        ∃ t, exec (.liftRequest dt p g [b]) s = .next t ∧ TurnedAway dt p .liftRequest (.refused .badArgument) s t) ∧
      (b = 0#8 → s.lac.state = .down → (∀ n, 1 ≤ n → n ≤ 11 → raiseCondition s n = true) →
        ∃ t, exec (.liftRequest dt p g [b]) s = .next t ∧ Done p .liftRequest (.done []) s t ∧
          t.lac.state = .raising ∧ t.lac.deadline = some (after (s.tick dt).now s.brake.raiseTimeout) ∧
          t.lac.latch = some ⟨source, .raise, (s.tick dt).now, .taken, none⟩ ∧ t.lac.auto = s.lac.auto ∧
          (t.coil .lift).commanded = true ∧ t.lifted .w1L = true ∧ t.lifted .w1R = true ∧
          t.leu.liveLift = ⟨0, .valid⟩ ∧ t.leu.appLift = ⟨0, .valid⟩ ∧
          (∀ c, c = .ll ∨ c = .lr → (t.chan c).sp.value = 0 ∧
            ((t.chan c).state = .inhibited ∨ (t.chan c).state = .passthrough)) ∧
          t.icu = s.icu ∧ t.dar = s.dar ∧ t.cfs = s.cfs ∧ t.leu.cal = s.leu.cal ∧ TyresKept s t) ∧
      (∀ n, b = 0#8 → s.lac.state = .down → firstFailing s = some n →
        ∃ t, exec (.liftRequest dt p g [b]) s = .next t ∧ Done p .liftRequest (.refused .wrongState) s t ∧
          t.lac = { s.lac with
            latch := some ⟨source, .raise, (s.tick dt).now, .refused, some (.condition n)⟩
            autoTimer := t.lac.autoTimer } ∧ QueuesKept s t ∧
          Changes dt [.lac, .pif] s t) ∧
      (b = 0#8 → s.lac.state ≠ .down →
        ∃ t, exec (.liftRequest dt p g [b]) s = .next t ∧ Done p .liftRequest (.refused .wrongState) s t ∧
          t.lac = { s.lac with
            latch := some ⟨source, .raise, (s.tick dt).now, .refused, some (.state s.lac.state)⟩ } ∧ QueuesKept s t ∧
          Changes dt [.lac, .pif] s t) ∧
      (b = 1#8 →
        ∃ t, exec (.liftRequest dt p g [b]) s = .next t ∧ Done p .liftRequest (.done []) s t ∧ t.lac.auto = false ∧
          t.lac.autoTimer = none ∧
          (s.lac.state = .raising ∨ s.lac.state = .up →
            t.lac.state = .lowering ∧ t.lac.deadline = some (after (s.tick dt).now s.brake.lowerTimeout) ∧
            t.lac.latch = some ⟨source, .lower, (s.tick dt).now, .taken, none⟩ ∧
            (t.coil .lift).commanded = false ∧ t.icu = s.icu ∧ t.dar = s.dar ∧ t.cfs = s.cfs) ∧
          (s.lac.state = .down ∨ s.lac.state = .lowering →
            t.lac.state = s.lac.state ∧ t.lac.deadline = s.lac.deadline ∧
            t.lac.latch = some ⟨source, .lower, (s.tick dt).now, .noEffect, none⟩ ∧ QueuesKept s t ∧
            Changes dt [.lac, .pif] s t)) ∧
      (b = 2#8 ∨ b = 3#8 →
        ∃ t, exec (.liftRequest dt p g [b]) s = .next t ∧ Done p .liftRequest (.done []) s t ∧
          t.lac = { s.lac with auto := decide (b = 2#8), autoTimer := t.lac.autoTimer } ∧
          (b = 3#8 → t.lac.autoTimer = none) ∧ QueuesKept s t ∧ Changes dt [.lac, .pif] s t))

/-- R74, R76, R78, RAISE_TIMEOUT and LOWER_TIMEOUT: a raise that runs out of time comes down, a lowering that does
is DOWN; both set the timeout flag and raise LIFT_TIMEOUT. R81, AUTO_TIMER_EXPIRY: in AUTO and DOWN, 10 s after the
raise conditions came to hold, a raise with source AUTO is taken. The premise is the machine's invariant, as for a
lift request. R80, BUTTON_INPUT_CHANGE and BUTTON_DEBOUNCED: a new pin level is stamped; a level that has stood 50
ms becomes the button level; from UNKNOWN, and to RELEASED, it does nothing more; from RELEASED to PRESSED it is a
press. A press lowers a raised axle; in DOWN it raises the axle where every raise condition holds (the premise is
the machine's invariant, as for a lift request), and is otherwise ignored with the first failing condition latched;
in LOWERING it is ignored, latched as a raise request that the lift state bars: the model's choice, log entry 27.
R74, R76 and R78, ANALOG_SAMPLE of PBX, from a state that meets the invariants: a VALID publication below
`pbx_up_limit` makes a RAISING axle UP, with the timeout flag and LIFT_TIMEOUT cleared and the flags of its wheel
ends standing; one at or above `pbx_down_limit` makes a LOWERING axle DOWN, with its flags cleared and its load
taken; no other PBX publication moves the axle. That the axle that reaches DOWN takes the load of this same
publication is the model's choice, log entry 22. -/
def Obligations.LiftTimersRun : Prop :=
  (∀ (dt : Delay) (s : State) (d : Stamp), s.lac.deadline = some d → reached (s.tick dt).now d = true →
      (s.lac.state = .raising →
        ∃ t, exec (.raiseTimeout dt) s = .next t ∧ t.lac.state = .lowering ∧ t.lac.timeoutFlag = true ∧
          t.lac.deadline = some (after (s.tick dt).now s.brake.lowerTimeout) ∧ t.faulted .liftTimeout = true ∧
          (t.coil .lift).commanded = false ∧ t.lifted .w1L = true ∧ t.leu.cal = s.leu.cal ∧ TyresKept s t ∧
          LinesKept s t ∧ Changes dt [.lac, .leu, .rsu, .channels, .chc, .ttr, .flm, .pif] s t) ∧
      (s.lac.state = .lowering →
        ∃ t, exec (.lowerTimeout dt) s = .next t ∧ t.lac.state = .down ∧ t.lac.timeoutFlag = true ∧
          t.lac.deadline = none ∧ t.faulted .liftTimeout = true ∧ (t.coil .lift).commanded = false ∧
          t.lifted .w1L = false ∧ t.lifted .w1R = false ∧ t.leu.liveLift = s.leu.sensor.pbx ∧
          (∀ c, (t.chan c).state = .inhibited → c = .ml ∨ c = .mr) ∧ t.leu.cal = s.leu.cal ∧ TyresKept s t ∧
          LinesKept s t ∧ Changes dt [.lac, .leu, .rsu, .channels, .chc, .ttr, .flm, .pif] s t)) ∧
  (∀ (dt : Delay) (s : State) (d : Stamp), Inv s → s.lac.auto = true → s.lac.autoTimer = some d →
      10000 ≤ since (s.tick dt).now d → (∀ n, 1 ≤ n → n ≤ 11 → raiseCondition s n = true) →
      ∃ t, exec (.autoTimerExpiry dt) s = .next t ∧ t.lac.state = .raising ∧ t.lac.autoTimer = none ∧
        t.lac.auto = true ∧ t.lac.deadline = some (after (s.tick dt).now s.brake.raiseTimeout) ∧
        t.lac.latch = some ⟨.auto, .raise, (s.tick dt).now, .taken, none⟩ ∧ (t.coil .lift).commanded = true ∧
        t.leu.cal = s.leu.cal ∧ TyresKept s t ∧ LinesKept s t ∧
        Changes dt [.lac, .leu, .rsu, .channels, .chc, .ttr, .flm, .pif] s t) ∧
  (∀ (dt : Delay) (s : State),
      (∀ x, s.lac.pin ≠ x →
        exec (.buttonInputChange dt x) s = .next { s.tick dt with lac :=
          { s.lac with pin := x, pinSince := (s.tick dt).now } }) ∧
      (50 ≤ since (s.tick dt).now s.lac.pinSince → s.lac.button ≠ .released ∨ s.lac.pin = false →
        exec (.buttonDebounced dt) s = .next { s.tick dt with lac := { s.lac with
          button := if s.lac.pin then .pressed else .released } }) ∧
      (50 ≤ since (s.tick dt).now s.lac.pinSince → s.lac.button = .released → s.lac.pin = true →
        s.lac.state = .raising ∨ s.lac.state = .up →
        ∃ t, exec (.buttonDebounced dt) s = .next t ∧ t.lac.button = .pressed ∧ t.lac.state = .lowering ∧
          t.lac.auto = false ∧ t.lac.latch = some ⟨.button, .lower, (s.tick dt).now, .taken, none⟩ ∧
          t.lac.deadline = some (after (s.tick dt).now s.brake.lowerTimeout) ∧ t.leu.cal = s.leu.cal ∧
          TyresKept s t ∧ LinesKept s t ∧
          Changes dt [.lac, .leu, .rsu, .channels, .chc, .ttr, .flm, .pif] s t) ∧
      (50 ≤ since (s.tick dt).now s.lac.pinSince → s.lac.button = .released → s.lac.pin = true →
        s.lac.state = .down → Inv s → (∀ n, 1 ≤ n → n ≤ 11 → raiseCondition s n = true) →
        ∃ t, exec (.buttonDebounced dt) s = .next t ∧ t.lac.button = .pressed ∧ t.lac.state = .raising ∧
          t.lac.auto = s.lac.auto ∧ t.lac.latch = some ⟨.button, .raise, (s.tick dt).now, .taken, none⟩ ∧
          t.lac.deadline = some (after (s.tick dt).now s.brake.raiseTimeout) ∧ (t.coil .lift).commanded = true ∧
          t.leu.cal = s.leu.cal ∧ TyresKept s t ∧ LinesKept s t ∧
          Changes dt [.lac, .leu, .rsu, .channels, .chc, .ttr, .flm, .pif] s t) ∧
      (∀ n, 50 ≤ since (s.tick dt).now s.lac.pinSince → s.lac.button = .released → s.lac.pin = true →
        s.lac.state = .down → firstFailing s = some n →
        exec (.buttonDebounced dt) s = .next { s.tick dt with lac := { s.lac with
          button := .pressed
          latch := some ⟨.button, .raise, (s.tick dt).now, .ignored, some (.condition n)⟩
          autoTimer := none } }) ∧
      (50 ≤ since (s.tick dt).now s.lac.pinSince → s.lac.button = .released → s.lac.pin = true →
        s.lac.state = .lowering →
        exec (.buttonDebounced dt) s = .next { s.tick dt with lac := { s.lac with
          button := .pressed
          latch := some ⟨.button, .raise, (s.tick dt).now, .ignored, some (.state .lowering)⟩
          autoTimer := none } })) ∧
  (∀ (dt : Delay) (x : Int) (o : Bool) (s : State), Inv s →
      ∃ t, exec (.analogSample dt .pbx x o) s = .next t ∧
        (let v := t.reading .pbx
        (o = false → turnsValid dt .pbx x s → v.mark = .valid) ∧
        (s.lac.state = .raising → v.mark = .valid → v.val < s.brake.pbxUpLimit →
          t.lac.state = .up ∧ t.lac.deadline = none ∧ t.lac.timeoutFlag = false ∧
          (s.lac.timeoutFlag = true → t.faulted .liftTimeout = false) ∧ (t.coil .lift).commanded = true ∧
          t.lifted .w1L = true ∧ t.lifted .w1R = true) ∧
        (s.lac.state = .raising → v.mark ≠ .valid ∨ s.brake.pbxUpLimit ≤ v.val →
          t.lac.state = .raising ∧ t.lac.deadline = s.lac.deadline ∧ t.lac.timeoutFlag = s.lac.timeoutFlag) ∧
        (s.lac.state = .lowering → v.mark = .valid → s.brake.pbxDownLimit ≤ v.val →
          t.lac.state = .down ∧ t.lac.deadline = none ∧ t.lac.timeoutFlag = s.lac.timeoutFlag ∧
          t.faulted .liftTimeout = s.faulted .liftTimeout ∧ (t.coil .lift).commanded = false ∧
          t.lifted .w1L = false ∧ t.lifted .w1R = false ∧ t.leu.liveLift = t.leu.sensor.pbx ∧
          t.leu.appLift = t.leu.sensor.pbx ∧ (∀ c, (t.chan c).state = .inhibited → c = .ml ∨ c = .mr)) ∧
        (s.lac.state = .lowering → v.mark ≠ .valid ∨ v.val < s.brake.pbxDownLimit →
          t.lac.state = .lowering ∧ t.lac.deadline = s.lac.deadline ∧ t.lac.timeoutFlag = s.lac.timeoutFlag) ∧
        (s.lac.state = .up ∨ s.lac.state = .down →
          t.lac.state = s.lac.state ∧ t.lac.deadline = s.lac.deadline ∧ t.lac.timeoutFlag = s.lac.timeoutFlag)) ∧
        t.lac.latch = s.lac.latch ∧ t.lac.auto = s.lac.auto ∧ t.dar = s.dar ∧ t.cfs = s.cfs ∧
        t.leu.cal = s.leu.cal ∧ TyresKept s t ∧ LinesKept s t ∧ t.clock = s.clock.advance dt ∧ t.pending = s.pending)

/-! ## Roll stability (chapter 7) -/

/-- R148 to R154 and R156, ANALOG_SAMPLE of ALAT while no cause of R146 holds, from a state that meets the
invariants: in WATCH |ALAT| from a_thr on leads through PROBE into INTERVENE, from a_probe on into PROBE once the
holdoff has passed, or at its very end either into PROBE or not: the model's free choice, log entry 45; in PROBE
|ALAT| from a_thr on leads into INTERVENE, and an ALAT no longer toward the inner side ends the probe; in INTERVENE
|ALAT| from a_thr on toward the outer side swaps the sides, and a small |ALAT| runs the quiet timer; in RECOVER
|ALAT| from a_thr on leads back into INTERVENE. The inner side is that of the sign of ALAT, and each channel on the
ground has the floor of its side. A swap keeps the floors of the entry: the model's choice, log entry 39. R147,
R149, R151 and R154, REFERENCE_EVALUATION, from such a state: in WATCH the entries are judged as at an ALAT
publication; in PROBE a slip of `lift_slip` on the inner side leads into INTERVENE with cause WHEEL_LIFT; in
INTERVENE a reference below 100 leads into RECOVER; so does a cause of R146 in both. A slip at the entry to PROBE
(log entry 20) and a reference below 100 at the entry to INTERVENE (log entry 43) wait for the next: the model's
choices. R146, R147 and R158, the expiry of the hold of ALAT, from such a state: its loss moves PROBE and INTERVENE
to RECOVER with the floors as they are, a probe's end noted, and leaves a recovery running; in WATCH the function
becomes UNAVAILABLE with its fault; in DISABLED no cause is judged and the record stays. R152, R154 and R155,
PROBE_DEADLINE_EXPIRY, QUIET_TIMER_COMPLETE and RECOVERY_STEP: a probe without lift ends in WATCH with its floors at
0 and its end noted; 500 ms of quiet end an intervention in RECOVER, whose floors stay; a step of the recovery takes
50 kPa off each floor, and the step that leaves both at 0 ends it in WATCH, or in UNAVAILABLE where a cause holds.
The next step counts from the deadline: the model's choice, log entry 32. -/
def Obligations.RollStatesMove : Prop :=
  (∀ (dt : Delay) (x : Int) (o : Bool) (s : State), Inv s →
      ∃ t, exec (.analogSample dt .alat x o) s = .next t ∧
        (let p := s.brake
        let now := (s.tick dt).now
        let alat := (t.reading .alat).val
        let n := if alat < 0 then -alat else alat
        let side := if 0 < alat then Side.left else Side.right
        let intervened := t.rsu.state = .intervene ∧ t.rsu.cause = some .lateral ∧ t.rsu.inner = some side ∧
          t.rsu.innerFloor = p.pIntInner ∧ t.rsu.outerFloor = p.pIntOuter ∧ t.rsu.quiet = none ∧
          t.rsu.probeDeadline = none ∧ t.rsu.nextStep = none
        let kept := t.rsu.state = s.rsu.state ∧ t.rsu.inner = s.rsu.inner ∧ t.rsu.innerFloor = s.rsu.innerFloor ∧
          t.rsu.outerFloor = s.rsu.outerFloor ∧ t.rsu.probeDeadline = s.rsu.probeDeadline ∧
          t.rsu.lastProbeEnd = s.rsu.lastProbeEnd ∧ t.rsu.nextStep = s.rsu.nextStep
        let ready := p.probeMinSpeed ≤ s.chc.ref.val
        let rested := ∀ d, s.rsu.lastProbeEnd = some d → p.probeHoldoff < since now d
        let ends := ∃ d, s.rsu.lastProbeEnd = some d ∧ since now d = p.probeHoldoff
        let probed := t.rsu.state = .probe ∧ t.rsu.inner = some side ∧ t.rsu.innerFloor = p.pTest ∧
          t.rsu.outerFloor = 0 ∧ t.rsu.probeDeadline = some (after now p.probeTime) ∧
          t.rsu.lastProbeEnd = s.rsu.lastProbeEnd
        (∀ c i, t.rsu.inner = some i → t.rsu.floors.get c =
          if t.chanLifted c then 0 else if sideOfChannel c = i then t.rsu.innerFloor else t.rsu.outerFloor) ∧
        (t.rollCauses.any = false → s.rsu.state = .watch →
          (ready → s.rsu.aProbe ≤ n → s.rsu.aThr ≤ n → intervened ∧ t.rsu.lastProbeEnd = some now) ∧
          (ready → s.rsu.aProbe ≤ n → n < s.rsu.aThr → rested → probed) ∧
          (ready → s.rsu.aProbe ≤ n → n < s.rsu.aThr → ends → probed ∨ kept) ∧
          (¬ready ∨ n < s.rsu.aProbe ∨ (n < s.rsu.aThr ∧ ¬rested ∧ ¬ends) → kept)) ∧
        (t.rollCauses.any = false → s.rsu.state = .probe →
          let toward := if s.rsu.inner = some .left then alat else -alat
          (s.rsu.aThr ≤ n → intervened ∧ t.rsu.lastProbeEnd = some now) ∧
          (n < s.rsu.aThr → toward < s.rsu.aProbe - 30 →
            t.rsu.state = .watch ∧ t.rsu.inner = none ∧ t.rsu.innerFloor = 0 ∧ t.rsu.outerFloor = 0 ∧
            (∀ c, t.rsu.floors.get c = 0) ∧ t.rsu.probeDeadline = none ∧ t.rsu.lastProbeEnd = some now) ∧
          (n < s.rsu.aThr → s.rsu.aProbe - 30 ≤ toward → kept)) ∧
        (t.rollCauses.any = false → s.rsu.state = .intervene →
          t.rsu.state = .intervene ∧ t.rsu.innerFloor = s.rsu.innerFloor ∧ t.rsu.outerFloor = s.rsu.outerFloor ∧
          t.rsu.cause = s.rsu.cause ∧
          (s.rsu.aThr ≤ n → s.rsu.inner ≠ some side → t.rsu.inner = some side ∧ t.rsu.quiet = none) ∧
          (n < s.rsu.aThr ∨ s.rsu.inner = some side → t.rsu.inner = s.rsu.inner ∧
            t.rsu.quiet = if n < s.rsu.aThr - p.exitHyst then some (s.rsu.quiet.getD now) else none)) ∧
        (t.rollCauses.any = false → s.rsu.state = .recover →
          (s.rsu.aThr ≤ n → intervened ∧ t.rsu.lastProbeEnd = s.rsu.lastProbeEnd) ∧ (n < s.rsu.aThr → kept))) ∧
        t.dar = s.dar ∧ t.cfs = s.cfs ∧ TyresKept s t ∧ LinesKept s t ∧
        t.clock = s.clock.advance dt ∧ t.pending = s.pending) ∧
  (∀ (dt : Delay) (s : State), Inv s → noCommit s = true →
      ∃ t, exec (.referenceEvaluation dt) s = .next t ∧
        (let p := s.brake
        let now := (s.tick dt).now
        let alat := (s.reading .alat).val
        let n := if alat < 0 then -alat else alat
        let side := if 0 < alat then Side.left else Side.right
        let floored := t.rsu.innerFloor = p.pIntInner ∧ t.rsu.outerFloor = p.pIntOuter ∧ t.rsu.quiet = none ∧
          t.rsu.probeDeadline = none ∧ t.rsu.nextStep = none ∧ t.rsu.lastProbeEnd = some now
        let recovers := t.rsu.state = .recover ∧ t.rsu.inner = s.rsu.inner ∧ t.rsu.innerFloor = s.rsu.innerFloor ∧
          t.rsu.outerFloor = s.rsu.outerFloor ∧ t.rsu.nextStep = some (after now 100) ∧ t.rsu.probeDeadline = none
        let kept := t.rsu.state = s.rsu.state ∧ t.rsu.inner = s.rsu.inner ∧ t.rsu.innerFloor = s.rsu.innerFloor ∧
          t.rsu.outerFloor = s.rsu.outerFloor ∧ t.rsu.probeDeadline = s.rsu.probeDeadline ∧
          t.rsu.lastProbeEnd = s.rsu.lastProbeEnd ∧ t.rsu.nextStep = s.rsu.nextStep ∧ t.rsu.quiet = s.rsu.quiet
        let ready := p.probeMinSpeed ≤ t.chc.ref.val
        let rested := ∀ d, s.rsu.lastProbeEnd = some d → p.probeHoldoff < since now d
        let ends := ∃ d, s.rsu.lastProbeEnd = some d ∧ since now d = p.probeHoldoff
        let probed := t.rsu.state = .probe ∧ t.rsu.inner = some side ∧ t.rsu.innerFloor = p.pTest ∧
          t.rsu.outerFloor = 0 ∧ t.rsu.probeDeadline = some (after now p.probeTime) ∧
          t.rsu.lastProbeEnd = s.rsu.lastProbeEnd
        let lifts := ∃ w, s.rsu.inner = some (sideOfWheel w) ∧ p.liftSlip ≤ t.chc.slips.get w
        (t.rollCauses.any = true → s.rsu.state = .probe ∨ s.rsu.state = .intervene →
          recovers ∧ t.rsu.lastProbeEnd = if s.rsu.state = .probe then some now else s.rsu.lastProbeEnd) ∧
        (t.rollCauses.any = true → s.rsu.state = .watch →
          t.rsu.state = .unavailable ∧ t.faulted .rollUnavailable = true) ∧
        (t.rollCauses.any = false → s.rsu.state = .watch →
          (ready → s.rsu.aProbe ≤ n → s.rsu.aThr ≤ n →
            t.rsu.state = .intervene ∧ t.rsu.cause = some .lateral ∧ t.rsu.inner = some side ∧ floored) ∧
          (ready → s.rsu.aProbe ≤ n → n < s.rsu.aThr → rested → probed) ∧
          (ready → s.rsu.aProbe ≤ n → n < s.rsu.aThr → ends → probed ∨ kept) ∧
          (¬ready ∨ n < s.rsu.aProbe ∨ (n < s.rsu.aThr ∧ ¬rested ∧ ¬ends) → kept)) ∧
        (t.rollCauses.any = false → s.rsu.state = .probe →
          (lifts → t.rsu.state = .intervene ∧ t.rsu.cause = some .wheelLift ∧ t.rsu.inner = s.rsu.inner ∧ floored) ∧
          (¬lifts → kept)) ∧
        (t.rollCauses.any = false → s.rsu.state = .intervene →
          (t.chc.ref.val < 100 → recovers ∧ t.rsu.lastProbeEnd = s.rsu.lastProbeEnd) ∧
          (100 ≤ t.chc.ref.val → kept)) ∧
        (s.rsu.state = .recover → kept)) ∧
        t.dar = s.dar ∧ t.icu = s.icu ∧ t.cfs = s.cfs) ∧
  (∀ (dt : Delay) (s : State) (d : Stamp), Inv s → noCommit s = true → (s.input .alat).state = .hold →
      (s.input .alat).holdDeadline = some d → reached (s.tick dt).now d = true →
      ∃ t, exec (.inputHoldExpiry dt .alat) s = .next t ∧
        (s.rsu.state ≠ .disabled → t.rsu.causes.alatLost = true) ∧
        (s.rsu.state = .disabled → t.rsu.state = .disabled ∧ t.rsu.causes = s.rsu.causes) ∧
        (s.rsu.state = .probe ∨ s.rsu.state = .intervene →
          t.rsu.state = .recover ∧ t.rsu.inner = s.rsu.inner ∧ t.rsu.innerFloor = s.rsu.innerFloor ∧
          t.rsu.outerFloor = s.rsu.outerFloor ∧ t.rsu.floors = s.rsu.floors ∧
          t.rsu.nextStep = some (after (s.tick dt).now 100) ∧ t.rsu.probeDeadline = none ∧ t.rsu.quiet = none ∧
          t.rsu.lastProbeEnd = if s.rsu.state = .probe then some (s.tick dt).now else s.rsu.lastProbeEnd) ∧
        (s.rsu.state = .recover → t.rsu.state = .recover ∧ t.rsu.innerFloor = s.rsu.innerFloor ∧
          t.rsu.outerFloor = s.rsu.outerFloor ∧ t.rsu.nextStep = s.rsu.nextStep) ∧
        (s.rsu.state = .watch ∨ s.rsu.state = .unavailable →
          t.rsu.state = .unavailable ∧ t.faulted .rollUnavailable = true ∧ t.rsu.lastProbeEnd = s.rsu.lastProbeEnd)) ∧
  (∀ (dt : Delay) (s : State) (d : Stamp),
      let kept := fun (t : State) => t.leu.cal = s.leu.cal ∧ TyresKept s t ∧ LinesKept s t ∧
        Changes dt [.rsu, .lac, .leu, .channels, .chc, .ttr, .flm, .pif] s t
      (s.rsu.state = .probe → s.rsu.probeDeadline = some d → reached (s.tick dt).now d = true →
        ∃ t, exec (.probeDeadlineExpiry dt) s = .next t ∧ kept t ∧ t.rsu.state = .watch ∧ t.rsu.inner = none ∧
          t.rsu.innerFloor = 0 ∧ t.rsu.outerFloor = 0 ∧ (∀ c, t.rsu.floors.get c = 0) ∧
          t.rsu.probeDeadline = none ∧ t.rsu.lastProbeEnd = some (s.tick dt).now) ∧
      (s.rsu.state = .intervene → s.rsu.quiet = some d → 500 ≤ since (s.tick dt).now d →
        ∃ t, exec (.quietTimerComplete dt) s = .next t ∧ kept t ∧ t.rsu.state = .recover ∧ t.rsu.quiet = none ∧
          t.rsu.nextStep = some (after (s.tick dt).now 100) ∧ t.rsu.inner = s.rsu.inner ∧
          t.rsu.innerFloor = s.rsu.innerFloor ∧ t.rsu.outerFloor = s.rsu.outerFloor) ∧
      (s.rsu.state = .recover → s.rsu.nextStep = some d → reached (s.tick dt).now d = true →
        ∃ t, exec (.recoveryStep dt) s = .next t ∧ kept t ∧
          t.rsu.innerFloor = max 0 (s.rsu.innerFloor - 50) ∧ t.rsu.outerFloor = max 0 (s.rsu.outerFloor - 50) ∧
          (50 < s.rsu.innerFloor ∨ 50 < s.rsu.outerFloor →
            t.rsu.state = .recover ∧ t.rsu.inner = s.rsu.inner ∧ t.rsu.nextStep = some (after d 100)) ∧
          (s.rsu.innerFloor ≤ 50 → s.rsu.outerFloor ≤ 50 →
            t.rsu.inner = none ∧ t.rsu.nextStep = none ∧ (∀ c, t.rsu.floors.get c = 0) ∧
            (s.rollCauses.any = false → t.rsu.state = .watch) ∧
            (s.rollCauses.any = true → t.rsu.state = .unavailable ∧ t.faulted .rollUnavailable = true))))

/-! ## The hard reset (R179) -/

/-- R179 with R24, R53, R55, R70, R82, R100, R116, R143, R159, R170 and R194: what a section holds decides what is
active, and UNCONFIGURED or STORE_CHECK is raised for it, with ROLL_UNAVAILABLE where the roll function is enabled,
in any order (R162); the first of them fills the first-fault record and each has its entry in the list. Every block
is at its hard-reset values. A write in flight leaves its section failing its check whatever is found there: the
model's choice, log entry 10. So are the pin levels that stay (log entry 12), the microsecond counter and its part
at 0 (log entry 13), and the lines of the ports idle (log entry 5). -/
def Obligations.HardResetLoadsStore : Prop :=
  ∀ (found : PerSection Found) (s : State), ∃ t, exec (.hardReset found) s = .next t ∧
    t.clock = ⟨0, 0, 0⟩ ∧ t.pending = s.pending ∧
    (∀ w, s.cfs.write = some w → (t.sect w.sect).stored = .failing ∧ (t.sect w.sect).state = .defaulted) ∧
    (∀ x, found.get x = .damaged → (t.sect x).stored = .failing ∧ (t.sect x).state = .defaulted) ∧
    (∀ x, (∀ w, s.cfs.write = some w → w.sect ≠ x) →
      (found.get x = .erased → (t.sect x).stored = .blank) ∧
      (found.get x = .asStored → (t.sect x).stored = (s.sect x).stored)) ∧
    (∀ x, (t.sect x).dirty = false ∧
      (t.sect x).state =
        match (t.sect x).stored with
        | .good _ => .good
        | _ => if Section.list.all (fun y => (t.sect y).stored == .blank) then .blank else .defaulted) ∧
    (∀ q, (t.sect .brakeConfig).stored = .good (.brake q) → t.cfs.brake = q ∧ t.cfs.brakeGood = true) ∧
    ((t.sect .brakeConfig).state ≠ .good → t.cfs.brake = BrakeSet.factory ∧ t.cfs.brakeGood = false) ∧
    (∀ q, (t.sect .tyreConfig).stored = .good (.tyre q) → t.cfs.tyre = q) ∧
    ((t.sect .tyreConfig).state ≠ .good → t.cfs.tyre = TyreSet.factory) ∧
    t.cfs =
      { brake := t.cfs.brake
        stagedBrake := t.cfs.brake
        tyre := t.cfs.tyre
        stagedTyre := t.cfs.tyre
        commit := ⟨false, false, none, none, .none, none⟩
        sections := t.cfs.sections
        write := none
        lastWrite := .none
        lastWriteTime := none
        brakeGood := t.cfs.brakeGood
        unconfigured := t.faulted .unconfigured } ∧
    (∀ q, (t.sect .bindings).stored = .good (.bindings q) → ∀ y, (t.tyre y).bound = q.get y) ∧
    ((t.sect .bindings).state ≠ .good → ∀ y, (t.tyre y).bound = none) ∧
    (∀ y, let b := (t.tyre y).bound
      t.tyre y =
        { bound := b
          state := if b.isSome then .awaiting else .unbound
          profile := none
          pressure := none
          temperature := none
          compensated := none
          strength := none
          lastTime := none
          missingDeadline := if b.isSome then some (after 0 t.cfs.tyre.missingTimeout) else none
          deadlineBase := if b.isSome then some 0 else none
          lowBattery := false
          level := .none
          hot := false
          leak := false
          acked := none
          trend := [] }) ∧
    t.ttr = ⟨none, none, 0, 0, 0, 0, t.ttr.tyres, [], ⟨none, .none, none, none, none⟩,
      .all ⟨.unknown, 1024, .zero, false⟩⟩ ∧
    (∀ q, (t.sect .calibration).stored = .good (.calibration q) →
      (∀ b, t.leu.cal.get b = { q.get b with confirmed := true }) ∧ t.calDefaulted = false) ∧
    ((t.sect .calibration).state ≠ .good → t.calDefaulted = true ∧
      t.leu.cal = ⟨⟨150, 3000, 600, 9000, false⟩, ⟨150, 3000, 600, 9000, false⟩, ⟨100, 1500, 550, 4500, false⟩⟩) ∧
    t.leu =
      { cal := t.leu.cal
        sensor := .all ⟨0, .lost⟩
        liveMain := ⟨0, .lost⟩
        liveLift := ⟨0, .valid⟩
        liveTotal := ⟨0, .lost⟩
        appMain := ⟨0, .lost⟩
        appLift := ⟨0, .valid⟩
        appTotal := ⟨0, .lost⟩
        fill := ⟨1024, .degraded⟩
        frozen := false
        release := none
        sessionOpen := false
        captures := .all ⟨none, none⟩
        results := .all .none
        lastEnd := .none
        lastEndTime := none } ∧
    (∀ i, t.input i = ⟨.settling, 0, 0, .inRange, [], .none, .none, none, none, 0⟩) ∧
    (∀ w, t.wheel w = ⟨.settling, 0, 0, 0, none, none, none, 0, (s.wheel w).openWire,
      if (s.wheel w).openWire then some (after 0 t.cfs.brake.inHoldTime) else none, none⟩) ∧
    t.icu = ⟨t.icu.inputs, t.icu.wheels, false, none, none, t.cfs.brake.vsolMin⟩ ∧
    t.lac = ⟨.lowering, t.cfs.brake.liftAutoDefault, some (after 0 t.cfs.brake.lowerTimeout), none, false, none,
      .unknown, s.lac.pin, 0⟩ ∧
    (∀ k, t.ctrl k = ⟨none, none, .absent, none, false, false⟩) ∧
    t.dar = ⟨t.dar.ctrl, false, none, 0, .passthrough, ⟨0, .lost⟩, none, none, t.cfs.brakeGood, none, none⟩ ∧
    (∀ c, t.chan c =
      { sp := ⟨0, .valid, false, .inhibit, none, none, none, none, none, none, none, 0⟩
        state := .passthrough
        latched := ⟨false, false, false⟩
        action := .release
        phase := .idle
        pLock := none
        ramp := none
        phaseDeadline := none
        held := none
        holdDeadline := none
        side := none
        trackAccum := 0
        trackSince := none
        slip := 0
        departPending := false
        episodes := 0 }) ∧
    t.chc = ⟨⟨0, .lost⟩, none, .all 0, .all ⟨false, false, .ok, none, none⟩, .of .ml .inlet⟩ ∧
    t.rsu =
      { state := if t.cfs.brake.rollEnable then .unavailable else .disabled
        causes := ⟨true, true, true⟩
        fillUsed := ⟨1024, .degraded⟩
        penalty := false
        aThr := rollThr t.cfs.brake 1024 false
        aProbe := probeThr t.cfs.brake (rollThr t.cfs.brake 1024 false)
        inner := none
        innerFloor := 0
        outerFloor := 0
        floors := .all 0
        probeDeadline := none
        lastProbeEnd := none
        quiet := none
        nextStep := none
        cause := none } ∧
    (t.faulted .unconfigured = true ↔ ∀ x, (t.sect x).stored = .blank) ∧
    (∀ x, t.faulted (.storeCheck x) = true ↔
      (t.sect x).state ≠ .good ∧ ∃ y, (t.sect y).stored ≠ .blank) ∧
    (t.faulted .rollUnavailable = true ↔ t.cfs.brake.rollEnable = true) ∧
    (t.flm.active.map (fun a => a.pair)).Nodup ∧
    (∀ a ∈ t.flm.active,
      (a.pair = .unconfigured ∨ a.pair = .rollUnavailable ∨ ∃ x, a.pair = .storeCheck x) ∧
      a.time = 0 ∧ a.severity = severityOf t.cfs.brake a.pair) ∧
    t.flm =
      { active := t.flm.active
        first := t.flm.active.head?.map fun a =>
          ⟨a.pair, 0, a.severity,
            { mode := .passthrough
              e := ⟨0, .lost⟩
              ref := ⟨0, .lost⟩
              appMain := ⟨0, .lost⟩
              appLift := ⟨0, .valid⟩
              channels := .all ⟨.passthrough, 0, .valid⟩
              lift := .lowering
              roll := if t.cfs.brake.rollEnable then .unavailable else .disabled }⟩
        entries := t.flm.active.map fun a => ⟨a.pair, 0, 0, 1, true, a.severity⟩
        overrun := false
        warnLine := t.flm.active.any fun a => a.severity != .note
        severeLine := t.flm.active.any fun a => a.severity == .severe } ∧
    t.pif =
      ⟨.all ⟨0, 0, [], false⟩, .all ⟨none, false, []⟩, ⟨none, 0, [], []⟩, 0, none, none, false, none⟩

/-! ## Invariants (Sys2Proof/Safety.lean)

The state right after a hard reset of a part whose store is blank meets every invariant, and every step from a
state that meets them all keeps each. -/

/-- The reset state meets the invariants; that its store is blank is the model's choice, log entry 10. -/
def Obligations.ResetMeetsInvariants : Prop :=
  Inv State.reset

/-- Chapter 8 (R162, R163, R167, R169): the active set, the lines and the next-fault list stay consistent. R182,
R189, R191: queues, held responses and the snapshot timer keep their bounds. -/
def Obligations.StepKeepsFaultsAndPorts : Prop :=
  (∀ s t : State, Inv s → step s = .next t → FaultsOk t) ∧
  (∀ s t : State, Inv s → step s = .next t → PortsOk t)

/-- R119, R132, R71: coils follow their channel's action or the lift state, and no SHORT coil is driven; so no
channel ever has its inlet and its exhaust on together. That a driver follows its command at once when its coil
leaves SHORT is the model's choice, log entry 25. R118, R135, R140: channel states, coil actions and latched causes
agree; PASSTHROUGH of the demand mode releases every channel, and the coil action of a channel whose wheel ends are
lifted is RELEASE or VENT, never APPLY or HOLD (in PASSTHROUGH the control line may still reach its chambers, R140).
A lifted wheel end has slip 0 (R157), and so has its channel at once: the model's choice, log entry 41. -/
def Obligations.StepKeepsCoilsAndChannels : Prop :=
  (∀ s t : State, Inv s → step s = .next t →
      CoilsOk t ∧ ∀ c, ¬((t.coil (.of c .inlet)).readback = true ∧ (t.coil (.of c .exhaust)).readback = true)) ∧
  (∀ s t : State, Inv s → step s = .next t →
      ChannelsOk t ∧ ∀ c, t.chanLifted c = true → (t.chan c).action = .release ∨ (t.chan c).action = .vent)

/-- R85, R86, R88, R91, R92, R95: E, agreement, votes and windows belong to the demand mode. R147: the roll function
is never in PROBE or INTERVENE while ALAT is LOST, the reference speed is LOST, or the demand mode is PASSTHROUGH;
with R145, R146 and R150 for the rest of the roll record. -/
def Obligations.StepKeepsDemandAndRoll : Prop :=
  (∀ s t : State, Inv s → step s = .next t → DemandOk t) ∧
  (∀ s t : State, Inv s → step s = .next t →
      RollOk t ∧ (t.rsu.state = .probe ∨ t.rsu.state = .intervene →
        (t.reading .alat).mark ≠ .lost ∧ t.chc.ref.mark ≠ .lost ∧ t.dar.mode ≠ .passthrough))

/-- R56, R58, R60 to R63, R69: loads follow their sensors, applied loads follow or are frozen, and a calibration
session stands only at rest. That the release timer is judged again at a brake commit with a new `load_hold_alat` is
the model's choice, log entry 33. R77: no axle stands UP or RAISING while a trigger holds: a load above
`lower_load`, a probe or an intervention, a flat main tyre, a LOST bellows input of the main group, PASSTHROUGH,
SUPPLY_LOW, or a LIFT coil fault. -/
def Obligations.StepKeepsLoadsAndLift : Prop :=
  (∀ s t : State, Inv s → step s = .next t → LoadsOk t) ∧
  (∀ s t : State, Inv s → step s = .next t → LiftOk t)

/-- R46, R49 to R51: no sensor ID is bound to more than one tyre position, in the table or in the store, and wheel
ends and their faults follow the tyre records. -/
def Obligations.StepKeepsTyres : Prop :=
  ∀ s t : State, Inv s → step s = .next t → TyresOk t

/-- R102, R103: every channel's setpoint is at every moment what the stages give for the present inputs. -/
def Obligations.StepKeepsSetpoints : Prop :=
  ∀ s t : State, Inv s → step s = .next t → SetpointsOk t

/-- R172 to R178: the active, staged and stored parameters stay legal, and the commit and the store consistent. -/
def Obligations.StepKeepsConfig : Prop :=
  ∀ s t : State, Inv s → step s = .next t → ConfigOk t
end

