-- ==== Sys2Proof/Laws/State.lean ====
section
/-! SUPPORT. The record updates of the state, once each: what reading a field or a table entry gives after a
write. No later proof has to unfold an update. -/

namespace Sys2Proof.Machine

/-! ## Tables -/

@[simp] theorem PerInput_get_set_self {α : Type} (t : PerInput α) (i : InputId) (x : α) : (t.set i x).get i = x := by
  cases i <;> rfl
theorem PerInput_get_set_ne {α : Type} (t : PerInput α) {i j : InputId} (x : α) (h : j ≠ i) :
    (t.set i x).get j = t.get j := by
  cases i <;> cases j <;> first | rfl | exact absurd rfl h
@[simp] theorem PerInput_get_all {α : Type} (x : α) (i : InputId) : (PerInput.all x).get i = x := by cases i <;> rfl
theorem PerInput_ext {α : Type} {t u : PerInput α} (h : ∀ i, t.get i = u.get i) : t = u := by
  cases t; cases u
  simp only [PerInput.mk.injEq]
  exact ⟨h .pdML, h .pdMR, h .pdLL, h .pdLR, h .pcl, h .psr, h .pbl, h .pbr, h .pbx, h .alat, h .vsol⟩

@[simp] theorem PerWheel_get_set_self {α : Type} (t : PerWheel α) (i : WheelEnd) (x : α) : (t.set i x).get i = x := by
  cases i <;> rfl
theorem PerWheel_get_set_ne {α : Type} (t : PerWheel α) {i j : WheelEnd} (x : α) (h : j ≠ i) :
    (t.set i x).get j = t.get j := by
  cases i <;> cases j <;> first | rfl | exact absurd rfl h
@[simp] theorem PerWheel_get_all {α : Type} (x : α) (i : WheelEnd) : (PerWheel.all x).get i = x := by cases i <;> rfl
theorem PerWheel_ext {α : Type} {t u : PerWheel α} (h : ∀ i, t.get i = u.get i) : t = u := by
  cases t; cases u
  simp only [PerWheel.mk.injEq]
  exact ⟨h .w1L, h .w1R, h .w2L, h .w2R, h .w3L, h .w3R⟩

@[simp] theorem PerChannel_get_set_self {α : Type} (t : PerChannel α) (i : Channel) (x : α) : (t.set i x).get i = x := by
  cases i <;> rfl
theorem PerChannel_get_set_ne {α : Type} (t : PerChannel α) {i j : Channel} (x : α) (h : j ≠ i) :
    (t.set i x).get j = t.get j := by
  cases i <;> cases j <;> first | rfl | exact absurd rfl h
@[simp] theorem PerChannel_get_all {α : Type} (x : α) (i : Channel) : (PerChannel.all x).get i = x := by cases i <;> rfl
theorem PerChannel_ext {α : Type} {t u : PerChannel α} (h : ∀ i, t.get i = u.get i) : t = u := by
  cases t; cases u
  simp only [PerChannel.mk.injEq]
  exact ⟨h .ml, h .mr, h .ll, h .lr⟩

@[simp] theorem PerTyre_get_set_self {α : Type} (t : PerTyre α) (i : Tyre) (x : α) : (t.set i x).get i = x := by
  cases i <;> rfl
theorem PerTyre_get_set_ne {α : Type} (t : PerTyre α) {i j : Tyre} (x : α) (h : j ≠ i) :
    (t.set i x).get j = t.get j := by
  cases i <;> cases j <;> first | rfl | exact absurd rfl h
@[simp] theorem PerTyre_get_all {α : Type} (x : α) (i : Tyre) : (PerTyre.all x).get i = x := by cases i <;> rfl
theorem PerTyre_ext {α : Type} {t u : PerTyre α} (h : ∀ i, t.get i = u.get i) : t = u := by
  cases t; cases u
  simp only [PerTyre.mk.injEq]
  exact ⟨h .t1LO, h .t1LI, h .t1RI, h .t1RO, h .t2LO, h .t2LI, h .t2RI, h .t2RO, h .t3LO, h .t3LI, h .t3RI, h .t3RO⟩

@[simp] theorem PerSection_get_set_self {α : Type} (t : PerSection α) (i : Section) (x : α) : (t.set i x).get i = x := by
  cases i <;> rfl
theorem PerSection_get_set_ne {α : Type} (t : PerSection α) {i j : Section} (x : α) (h : j ≠ i) :
    (t.set i x).get j = t.get j := by
  cases i <;> cases j <;> first | rfl | exact absurd rfl h
@[simp] theorem PerSection_get_all {α : Type} (x : α) (i : Section) : (PerSection.all x).get i = x := by cases i <;> rfl
theorem PerSection_ext {α : Type} {t u : PerSection α} (h : ∀ i, t.get i = u.get i) : t = u := by
  cases t; cases u
  simp only [PerSection.mk.injEq]
  exact ⟨h .brakeConfig, h .tyreConfig, h .calibration, h .bindings⟩

@[simp] theorem PerBellows_get_set_self {α : Type} (t : PerBellows α) (i : Bellows) (x : α) : (t.set i x).get i = x := by
  cases i <;> rfl
theorem PerBellows_get_set_ne {α : Type} (t : PerBellows α) {i j : Bellows} (x : α) (h : j ≠ i) :
    (t.set i x).get j = t.get j := by
  cases i <;> cases j <;> first | rfl | exact absurd rfl h
@[simp] theorem PerBellows_get_all {α : Type} (x : α) (i : Bellows) : (PerBellows.all x).get i = x := by cases i <;> rfl
theorem PerBellows_ext {α : Type} {t u : PerBellows α} (h : ∀ i, t.get i = u.get i) : t = u := by
  cases t; cases u
  simp only [PerBellows.mk.injEq]
  exact ⟨h .pbl, h .pbr, h .pbx⟩

@[simp] theorem PerController_get_set_self {α : Type} (t : PerController α) (i : Controller) (x : α) : (t.set i x).get i = x := by
  cases i <;> rfl
theorem PerController_get_set_ne {α : Type} (t : PerController α) {i j : Controller} (x : α) (h : j ≠ i) :
    (t.set i x).get j = t.get j := by
  cases i <;> cases j <;> first | rfl | exact absurd rfl h
@[simp] theorem PerController_get_all {α : Type} (x : α) (i : Controller) : (PerController.all x).get i = x := by cases i <;> rfl
theorem PerController_ext {α : Type} {t u : PerController α} (h : ∀ i, t.get i = u.get i) : t = u := by
  cases t; cases u
  simp only [PerController.mk.injEq]
  exact ⟨h .a, h .b⟩

@[simp] theorem PerPort_get_set_self {α : Type} (t : PerPort α) (i : Port) (x : α) : (t.set i x).get i = x := by
  cases i <;> rfl
theorem PerPort_get_set_ne {α : Type} (t : PerPort α) {i j : Port} (x : α) (h : j ≠ i) :
    (t.set i x).get j = t.get j := by
  cases i <;> cases j <;> first | rfl | exact absurd rfl h
@[simp] theorem PerPort_get_all {α : Type} (x : α) (i : Port) : (PerPort.all x).get i = x := by cases i <;> rfl
theorem PerPort_ext {α : Type} {t u : PerPort α} (h : ∀ i, t.get i = u.get i) : t = u := by
  cases t; cases u
  simp only [PerPort.mk.injEq]
  exact ⟨h .a, h .b, h .t⟩

@[simp] theorem PerCoil_get_set_self {α : Type} (t : PerCoil α) (k : Coil) (x : α) : (t.set k x).get k = x := by
  rcases k with ⟨c, f⟩ | _
  · cases f <;> simp [PerCoil.set, PerCoil.get]
  · rfl
theorem PerCoil_get_set_ne {α : Type} (t : PerCoil α) {k j : Coil} (x : α) (h : j ≠ k) :
    (t.set k x).get j = t.get j := by
  rcases k with ⟨c, f⟩ | _ <;> rcases j with ⟨d, g⟩ | _
  · by_cases hd : d = c
    · subst hd
      cases f <;> cases g <;> first | rfl | exact absurd rfl h
    · cases f <;> cases g <;> simp [PerCoil.set, PerCoil.get, PerChannel_get_set_ne _ _ hd]
  · cases f <;> rfl
  · cases g <;> rfl
  · exact absurd rfl h
@[simp] theorem PerCoil_get_all {α : Type} (x : α) (k : Coil) : (PerCoil.all x).get k = x := by
  rcases k with ⟨c, f⟩ | _
  · cases f <;> simp [PerCoil.all, PerCoil.get]
  · rfl

/-! ## Writes of one entry: every other part of the state stays -/

@[simp] theorem setInput_clock (s : State) (i : InputId) (r : InputRec) : (s.setInput i r).clock = s.clock := rfl
@[simp] theorem setInput_ttr (s : State) (i : InputId) (r : InputRec) : (s.setInput i r).ttr = s.ttr := rfl
@[simp] theorem setInput_leu (s : State) (i : InputId) (r : InputRec) : (s.setInput i r).leu = s.leu := rfl
@[simp] theorem setInput_lac (s : State) (i : InputId) (r : InputRec) : (s.setInput i r).lac = s.lac := rfl
@[simp] theorem setInput_dar (s : State) (i : InputId) (r : InputRec) : (s.setInput i r).dar = s.dar := rfl
@[simp] theorem setInput_channels (s : State) (i : InputId) (r : InputRec) : (s.setInput i r).channels = s.channels := rfl
@[simp] theorem setInput_chc (s : State) (i : InputId) (r : InputRec) : (s.setInput i r).chc = s.chc := rfl
@[simp] theorem setInput_rsu (s : State) (i : InputId) (r : InputRec) : (s.setInput i r).rsu = s.rsu := rfl
@[simp] theorem setInput_flm (s : State) (i : InputId) (r : InputRec) : (s.setInput i r).flm = s.flm := rfl
@[simp] theorem setInput_cfs (s : State) (i : InputId) (r : InputRec) : (s.setInput i r).cfs = s.cfs := rfl
@[simp] theorem setInput_pif (s : State) (i : InputId) (r : InputRec) : (s.setInput i r).pif = s.pif := rfl
@[simp] theorem setInput_choice (s : State) (i : InputId) (r : InputRec) : (s.setInput i r).choice = s.choice := rfl
@[simp] theorem setInput_edges (s : State) (i : InputId) (r : InputRec) : (s.setInput i r).edges = s.edges := rfl
@[simp] theorem setInput_pending (s : State) (i : InputId) (r : InputRec) : (s.setInput i r).pending = s.pending := rfl
@[simp] theorem setInput_input_self (s : State) (i : InputId) (r : InputRec) : (s.setInput i r).input i = r := by
  simp [State.setInput, State.input]
theorem setInput_input_ne (s : State) {i j : InputId} (r : InputRec) (h : j ≠ i) : (s.setInput i r).input j = s.input j := by
  simp only [State.setInput, State.input, PerInput_get_set_ne _ _ h]
@[simp] theorem setWheel_clock (s : State) (w : WheelEnd) (r : WheelRec) : (s.setWheel w r).clock = s.clock := rfl
@[simp] theorem setWheel_ttr (s : State) (w : WheelEnd) (r : WheelRec) : (s.setWheel w r).ttr = s.ttr := rfl
@[simp] theorem setWheel_leu (s : State) (w : WheelEnd) (r : WheelRec) : (s.setWheel w r).leu = s.leu := rfl
@[simp] theorem setWheel_lac (s : State) (w : WheelEnd) (r : WheelRec) : (s.setWheel w r).lac = s.lac := rfl
@[simp] theorem setWheel_dar (s : State) (w : WheelEnd) (r : WheelRec) : (s.setWheel w r).dar = s.dar := rfl
@[simp] theorem setWheel_channels (s : State) (w : WheelEnd) (r : WheelRec) : (s.setWheel w r).channels = s.channels := rfl
@[simp] theorem setWheel_chc (s : State) (w : WheelEnd) (r : WheelRec) : (s.setWheel w r).chc = s.chc := rfl
@[simp] theorem setWheel_rsu (s : State) (w : WheelEnd) (r : WheelRec) : (s.setWheel w r).rsu = s.rsu := rfl
@[simp] theorem setWheel_flm (s : State) (w : WheelEnd) (r : WheelRec) : (s.setWheel w r).flm = s.flm := rfl
@[simp] theorem setWheel_cfs (s : State) (w : WheelEnd) (r : WheelRec) : (s.setWheel w r).cfs = s.cfs := rfl
@[simp] theorem setWheel_pif (s : State) (w : WheelEnd) (r : WheelRec) : (s.setWheel w r).pif = s.pif := rfl
@[simp] theorem setWheel_choice (s : State) (w : WheelEnd) (r : WheelRec) : (s.setWheel w r).choice = s.choice := rfl
@[simp] theorem setWheel_edges (s : State) (w : WheelEnd) (r : WheelRec) : (s.setWheel w r).edges = s.edges := rfl
@[simp] theorem setWheel_pending (s : State) (w : WheelEnd) (r : WheelRec) : (s.setWheel w r).pending = s.pending := rfl
@[simp] theorem setWheel_wheel_self (s : State) (w : WheelEnd) (r : WheelRec) : (s.setWheel w r).wheel w = r := by
  simp [State.setWheel, State.wheel]
theorem setWheel_wheel_ne (s : State) {w j : WheelEnd} (r : WheelRec) (h : j ≠ w) : (s.setWheel w r).wheel j = s.wheel j := by
  simp only [State.setWheel, State.wheel, PerWheel_get_set_ne _ _ h]
@[simp] theorem setTyre_clock (s : State) (y : Tyre) (r : TyreRec) : (s.setTyre y r).clock = s.clock := rfl
@[simp] theorem setTyre_icu (s : State) (y : Tyre) (r : TyreRec) : (s.setTyre y r).icu = s.icu := rfl
@[simp] theorem setTyre_leu (s : State) (y : Tyre) (r : TyreRec) : (s.setTyre y r).leu = s.leu := rfl
@[simp] theorem setTyre_lac (s : State) (y : Tyre) (r : TyreRec) : (s.setTyre y r).lac = s.lac := rfl
@[simp] theorem setTyre_dar (s : State) (y : Tyre) (r : TyreRec) : (s.setTyre y r).dar = s.dar := rfl
@[simp] theorem setTyre_channels (s : State) (y : Tyre) (r : TyreRec) : (s.setTyre y r).channels = s.channels := rfl
@[simp] theorem setTyre_chc (s : State) (y : Tyre) (r : TyreRec) : (s.setTyre y r).chc = s.chc := rfl
@[simp] theorem setTyre_rsu (s : State) (y : Tyre) (r : TyreRec) : (s.setTyre y r).rsu = s.rsu := rfl
@[simp] theorem setTyre_flm (s : State) (y : Tyre) (r : TyreRec) : (s.setTyre y r).flm = s.flm := rfl
@[simp] theorem setTyre_cfs (s : State) (y : Tyre) (r : TyreRec) : (s.setTyre y r).cfs = s.cfs := rfl
@[simp] theorem setTyre_pif (s : State) (y : Tyre) (r : TyreRec) : (s.setTyre y r).pif = s.pif := rfl
@[simp] theorem setTyre_choice (s : State) (y : Tyre) (r : TyreRec) : (s.setTyre y r).choice = s.choice := rfl
@[simp] theorem setTyre_edges (s : State) (y : Tyre) (r : TyreRec) : (s.setTyre y r).edges = s.edges := rfl
@[simp] theorem setTyre_pending (s : State) (y : Tyre) (r : TyreRec) : (s.setTyre y r).pending = s.pending := rfl
@[simp] theorem setTyre_tyre_self (s : State) (y : Tyre) (r : TyreRec) : (s.setTyre y r).tyre y = r := by
  simp [State.setTyre, State.tyre]
theorem setTyre_tyre_ne (s : State) {y j : Tyre} (r : TyreRec) (h : j ≠ y) : (s.setTyre y r).tyre j = s.tyre j := by
  simp only [State.setTyre, State.tyre, PerTyre_get_set_ne _ _ h]
@[simp] theorem setWheelTyre_clock (s : State) (w : WheelEnd) (r : WheelTyre) : (s.setWheelTyre w r).clock = s.clock := rfl
@[simp] theorem setWheelTyre_icu (s : State) (w : WheelEnd) (r : WheelTyre) : (s.setWheelTyre w r).icu = s.icu := rfl
@[simp] theorem setWheelTyre_leu (s : State) (w : WheelEnd) (r : WheelTyre) : (s.setWheelTyre w r).leu = s.leu := rfl
@[simp] theorem setWheelTyre_lac (s : State) (w : WheelEnd) (r : WheelTyre) : (s.setWheelTyre w r).lac = s.lac := rfl
@[simp] theorem setWheelTyre_dar (s : State) (w : WheelEnd) (r : WheelTyre) : (s.setWheelTyre w r).dar = s.dar := rfl
@[simp] theorem setWheelTyre_channels (s : State) (w : WheelEnd) (r : WheelTyre) : (s.setWheelTyre w r).channels = s.channels := rfl
@[simp] theorem setWheelTyre_chc (s : State) (w : WheelEnd) (r : WheelTyre) : (s.setWheelTyre w r).chc = s.chc := rfl
@[simp] theorem setWheelTyre_rsu (s : State) (w : WheelEnd) (r : WheelTyre) : (s.setWheelTyre w r).rsu = s.rsu := rfl
@[simp] theorem setWheelTyre_flm (s : State) (w : WheelEnd) (r : WheelTyre) : (s.setWheelTyre w r).flm = s.flm := rfl
@[simp] theorem setWheelTyre_cfs (s : State) (w : WheelEnd) (r : WheelTyre) : (s.setWheelTyre w r).cfs = s.cfs := rfl
@[simp] theorem setWheelTyre_pif (s : State) (w : WheelEnd) (r : WheelTyre) : (s.setWheelTyre w r).pif = s.pif := rfl
@[simp] theorem setWheelTyre_choice (s : State) (w : WheelEnd) (r : WheelTyre) : (s.setWheelTyre w r).choice = s.choice := rfl
@[simp] theorem setWheelTyre_edges (s : State) (w : WheelEnd) (r : WheelTyre) : (s.setWheelTyre w r).edges = s.edges := rfl
@[simp] theorem setWheelTyre_pending (s : State) (w : WheelEnd) (r : WheelTyre) : (s.setWheelTyre w r).pending = s.pending := rfl
@[simp] theorem setWheelTyre_wheelTyre_self (s : State) (w : WheelEnd) (r : WheelTyre) : (s.setWheelTyre w r).wheelTyre w = r := by
  simp [State.setWheelTyre, State.wheelTyre]
theorem setWheelTyre_wheelTyre_ne (s : State) {w j : WheelEnd} (r : WheelTyre) (h : j ≠ w) : (s.setWheelTyre w r).wheelTyre j = s.wheelTyre j := by
  simp only [State.setWheelTyre, State.wheelTyre, PerWheel_get_set_ne _ _ h]
@[simp] theorem setChan_clock (s : State) (c : Channel) (r : ChannelRec) : (s.setChan c r).clock = s.clock := rfl
@[simp] theorem setChan_icu (s : State) (c : Channel) (r : ChannelRec) : (s.setChan c r).icu = s.icu := rfl
@[simp] theorem setChan_ttr (s : State) (c : Channel) (r : ChannelRec) : (s.setChan c r).ttr = s.ttr := rfl
@[simp] theorem setChan_leu (s : State) (c : Channel) (r : ChannelRec) : (s.setChan c r).leu = s.leu := rfl
@[simp] theorem setChan_lac (s : State) (c : Channel) (r : ChannelRec) : (s.setChan c r).lac = s.lac := rfl
@[simp] theorem setChan_dar (s : State) (c : Channel) (r : ChannelRec) : (s.setChan c r).dar = s.dar := rfl
@[simp] theorem setChan_chc (s : State) (c : Channel) (r : ChannelRec) : (s.setChan c r).chc = s.chc := rfl
@[simp] theorem setChan_rsu (s : State) (c : Channel) (r : ChannelRec) : (s.setChan c r).rsu = s.rsu := rfl
@[simp] theorem setChan_flm (s : State) (c : Channel) (r : ChannelRec) : (s.setChan c r).flm = s.flm := rfl
@[simp] theorem setChan_cfs (s : State) (c : Channel) (r : ChannelRec) : (s.setChan c r).cfs = s.cfs := rfl
@[simp] theorem setChan_pif (s : State) (c : Channel) (r : ChannelRec) : (s.setChan c r).pif = s.pif := rfl
@[simp] theorem setChan_choice (s : State) (c : Channel) (r : ChannelRec) : (s.setChan c r).choice = s.choice := rfl
@[simp] theorem setChan_edges (s : State) (c : Channel) (r : ChannelRec) : (s.setChan c r).edges = s.edges := rfl
@[simp] theorem setChan_pending (s : State) (c : Channel) (r : ChannelRec) : (s.setChan c r).pending = s.pending := rfl
@[simp] theorem setChan_chan_self (s : State) (c : Channel) (r : ChannelRec) : (s.setChan c r).chan c = r := by
  simp [State.setChan, State.chan]
theorem setChan_chan_ne (s : State) {c j : Channel} (r : ChannelRec) (h : j ≠ c) : (s.setChan c r).chan j = s.chan j := by
  simp only [State.setChan, State.chan, PerChannel_get_set_ne _ _ h]
@[simp] theorem setCoil_clock (s : State) (k : Coil) (r : CoilRec) : (s.setCoil k r).clock = s.clock := rfl
@[simp] theorem setCoil_icu (s : State) (k : Coil) (r : CoilRec) : (s.setCoil k r).icu = s.icu := rfl
@[simp] theorem setCoil_ttr (s : State) (k : Coil) (r : CoilRec) : (s.setCoil k r).ttr = s.ttr := rfl
@[simp] theorem setCoil_leu (s : State) (k : Coil) (r : CoilRec) : (s.setCoil k r).leu = s.leu := rfl
@[simp] theorem setCoil_lac (s : State) (k : Coil) (r : CoilRec) : (s.setCoil k r).lac = s.lac := rfl
@[simp] theorem setCoil_dar (s : State) (k : Coil) (r : CoilRec) : (s.setCoil k r).dar = s.dar := rfl
@[simp] theorem setCoil_channels (s : State) (k : Coil) (r : CoilRec) : (s.setCoil k r).channels = s.channels := rfl
@[simp] theorem setCoil_rsu (s : State) (k : Coil) (r : CoilRec) : (s.setCoil k r).rsu = s.rsu := rfl
@[simp] theorem setCoil_flm (s : State) (k : Coil) (r : CoilRec) : (s.setCoil k r).flm = s.flm := rfl
@[simp] theorem setCoil_cfs (s : State) (k : Coil) (r : CoilRec) : (s.setCoil k r).cfs = s.cfs := rfl
@[simp] theorem setCoil_pif (s : State) (k : Coil) (r : CoilRec) : (s.setCoil k r).pif = s.pif := rfl
@[simp] theorem setCoil_choice (s : State) (k : Coil) (r : CoilRec) : (s.setCoil k r).choice = s.choice := rfl
@[simp] theorem setCoil_edges (s : State) (k : Coil) (r : CoilRec) : (s.setCoil k r).edges = s.edges := rfl
@[simp] theorem setCoil_pending (s : State) (k : Coil) (r : CoilRec) : (s.setCoil k r).pending = s.pending := rfl
@[simp] theorem setCoil_coil_self (s : State) (k : Coil) (r : CoilRec) : (s.setCoil k r).coil k = r := by
  simp [State.setCoil, State.coil]
theorem setCoil_coil_ne (s : State) {k j : Coil} (r : CoilRec) (h : j ≠ k) : (s.setCoil k r).coil j = s.coil j := by
  simp only [State.setCoil, State.coil, PerCoil_get_set_ne _ _ h]
@[simp] theorem setCtrl_clock (s : State) (k : Controller) (r : Ctrl) : (s.setCtrl k r).clock = s.clock := rfl
@[simp] theorem setCtrl_icu (s : State) (k : Controller) (r : Ctrl) : (s.setCtrl k r).icu = s.icu := rfl
@[simp] theorem setCtrl_ttr (s : State) (k : Controller) (r : Ctrl) : (s.setCtrl k r).ttr = s.ttr := rfl
@[simp] theorem setCtrl_leu (s : State) (k : Controller) (r : Ctrl) : (s.setCtrl k r).leu = s.leu := rfl
@[simp] theorem setCtrl_lac (s : State) (k : Controller) (r : Ctrl) : (s.setCtrl k r).lac = s.lac := rfl
@[simp] theorem setCtrl_channels (s : State) (k : Controller) (r : Ctrl) : (s.setCtrl k r).channels = s.channels := rfl
@[simp] theorem setCtrl_chc (s : State) (k : Controller) (r : Ctrl) : (s.setCtrl k r).chc = s.chc := rfl
@[simp] theorem setCtrl_rsu (s : State) (k : Controller) (r : Ctrl) : (s.setCtrl k r).rsu = s.rsu := rfl
@[simp] theorem setCtrl_flm (s : State) (k : Controller) (r : Ctrl) : (s.setCtrl k r).flm = s.flm := rfl
@[simp] theorem setCtrl_cfs (s : State) (k : Controller) (r : Ctrl) : (s.setCtrl k r).cfs = s.cfs := rfl
@[simp] theorem setCtrl_pif (s : State) (k : Controller) (r : Ctrl) : (s.setCtrl k r).pif = s.pif := rfl
@[simp] theorem setCtrl_choice (s : State) (k : Controller) (r : Ctrl) : (s.setCtrl k r).choice = s.choice := rfl
@[simp] theorem setCtrl_edges (s : State) (k : Controller) (r : Ctrl) : (s.setCtrl k r).edges = s.edges := rfl
@[simp] theorem setCtrl_pending (s : State) (k : Controller) (r : Ctrl) : (s.setCtrl k r).pending = s.pending := rfl
@[simp] theorem setCtrl_ctrl_self (s : State) (k : Controller) (r : Ctrl) : (s.setCtrl k r).ctrl k = r := by
  simp [State.setCtrl, State.ctrl]
theorem setCtrl_ctrl_ne (s : State) {k j : Controller} (r : Ctrl) (h : j ≠ k) : (s.setCtrl k r).ctrl j = s.ctrl j := by
  simp only [State.setCtrl, State.ctrl, PerController_get_set_ne _ _ h]
@[simp] theorem setSect_clock (s : State) (x : Section) (r : SectionRec) : (s.setSect x r).clock = s.clock := rfl
@[simp] theorem setSect_icu (s : State) (x : Section) (r : SectionRec) : (s.setSect x r).icu = s.icu := rfl
@[simp] theorem setSect_ttr (s : State) (x : Section) (r : SectionRec) : (s.setSect x r).ttr = s.ttr := rfl
@[simp] theorem setSect_leu (s : State) (x : Section) (r : SectionRec) : (s.setSect x r).leu = s.leu := rfl
@[simp] theorem setSect_lac (s : State) (x : Section) (r : SectionRec) : (s.setSect x r).lac = s.lac := rfl
@[simp] theorem setSect_dar (s : State) (x : Section) (r : SectionRec) : (s.setSect x r).dar = s.dar := rfl
@[simp] theorem setSect_channels (s : State) (x : Section) (r : SectionRec) : (s.setSect x r).channels = s.channels := rfl
@[simp] theorem setSect_chc (s : State) (x : Section) (r : SectionRec) : (s.setSect x r).chc = s.chc := rfl
@[simp] theorem setSect_rsu (s : State) (x : Section) (r : SectionRec) : (s.setSect x r).rsu = s.rsu := rfl
@[simp] theorem setSect_flm (s : State) (x : Section) (r : SectionRec) : (s.setSect x r).flm = s.flm := rfl
@[simp] theorem setSect_pif (s : State) (x : Section) (r : SectionRec) : (s.setSect x r).pif = s.pif := rfl
@[simp] theorem setSect_choice (s : State) (x : Section) (r : SectionRec) : (s.setSect x r).choice = s.choice := rfl
@[simp] theorem setSect_edges (s : State) (x : Section) (r : SectionRec) : (s.setSect x r).edges = s.edges := rfl
@[simp] theorem setSect_pending (s : State) (x : Section) (r : SectionRec) : (s.setSect x r).pending = s.pending := rfl
@[simp] theorem setSect_sect_self (s : State) (x : Section) (r : SectionRec) : (s.setSect x r).sect x = r := by
  simp [State.setSect, State.sect]
theorem setSect_sect_ne (s : State) {x j : Section} (r : SectionRec) (h : j ≠ x) : (s.setSect x r).sect j = s.sect j := by
  simp only [State.setSect, State.sect, PerSection_get_set_ne _ _ h]

/-! ## The other fields of the block an entry belongs to -/

@[simp] theorem setInput_icu_wheels (s : State) (i : InputId) (r : InputRec) : (s.setInput i r).icu.wheels = s.icu.wheels := rfl
@[simp] theorem setInput_icu_supplyLow (s : State) (i : InputId) (r : InputRec) : (s.setInput i r).icu.supplyLow = s.icu.supplyLow := rfl
@[simp] theorem setInput_icu_lowTimer (s : State) (i : InputId) (r : InputRec) : (s.setInput i r).icu.lowTimer = s.icu.lowTimer := rfl
@[simp] theorem setInput_icu_clearTimer (s : State) (i : InputId) (r : InputRec) : (s.setInput i r).icu.clearTimer = s.icu.clearTimer := rfl
@[simp] theorem setInput_icu_vsolMin (s : State) (i : InputId) (r : InputRec) : (s.setInput i r).icu.vsolMin = s.icu.vsolMin := rfl
@[simp] theorem setWheel_icu_inputs (s : State) (w : WheelEnd) (r : WheelRec) : (s.setWheel w r).icu.inputs = s.icu.inputs := rfl
@[simp] theorem setWheel_icu_supplyLow (s : State) (w : WheelEnd) (r : WheelRec) : (s.setWheel w r).icu.supplyLow = s.icu.supplyLow := rfl
@[simp] theorem setWheel_icu_lowTimer (s : State) (w : WheelEnd) (r : WheelRec) : (s.setWheel w r).icu.lowTimer = s.icu.lowTimer := rfl
@[simp] theorem setWheel_icu_clearTimer (s : State) (w : WheelEnd) (r : WheelRec) : (s.setWheel w r).icu.clearTimer = s.icu.clearTimer := rfl
@[simp] theorem setWheel_icu_vsolMin (s : State) (w : WheelEnd) (r : WheelRec) : (s.setWheel w r).icu.vsolMin = s.icu.vsolMin := rfl
@[simp] theorem setTyre_ttr_rx (s : State) (y : Tyre) (r : TyreRec) : (s.setTyre y r).ttr.rx = s.ttr.rx := rfl
@[simp] theorem setTyre_ttr_gapDeadline (s : State) (y : Tyre) (r : TyreRec) : (s.setTyre y r).ttr.gapDeadline = s.ttr.gapDeadline := rfl
@[simp] theorem setTyre_ttr_accepted (s : State) (y : Tyre) (r : TyreRec) : (s.setTyre y r).ttr.accepted = s.ttr.accepted := rfl
@[simp] theorem setTyre_ttr_checkRejected (s : State) (y : Tyre) (r : TyreRec) : (s.setTyre y r).ttr.checkRejected = s.ttr.checkRejected := rfl
@[simp] theorem setTyre_ttr_formatRejected (s : State) (y : Tyre) (r : TyreRec) : (s.setTyre y r).ttr.formatRejected = s.ttr.formatRejected := rfl
@[simp] theorem setTyre_ttr_strangerCount (s : State) (y : Tyre) (r : TyreRec) : (s.setTyre y r).ttr.strangerCount = s.ttr.strangerCount := rfl
@[simp] theorem setTyre_ttr_strangers (s : State) (y : Tyre) (r : TyreRec) : (s.setTyre y r).ttr.strangers = s.ttr.strangers := rfl
@[simp] theorem setTyre_ttr_learn (s : State) (y : Tyre) (r : TyreRec) : (s.setTyre y r).ttr.learn = s.ttr.learn := rfl
@[simp] theorem setTyre_ttr_wheels (s : State) (y : Tyre) (r : TyreRec) : (s.setTyre y r).ttr.wheels = s.ttr.wheels := rfl
@[simp] theorem setWheelTyre_ttr_rx (s : State) (w : WheelEnd) (r : WheelTyre) : (s.setWheelTyre w r).ttr.rx = s.ttr.rx := rfl
@[simp] theorem setWheelTyre_ttr_gapDeadline (s : State) (w : WheelEnd) (r : WheelTyre) : (s.setWheelTyre w r).ttr.gapDeadline = s.ttr.gapDeadline := rfl
@[simp] theorem setWheelTyre_ttr_accepted (s : State) (w : WheelEnd) (r : WheelTyre) : (s.setWheelTyre w r).ttr.accepted = s.ttr.accepted := rfl
@[simp] theorem setWheelTyre_ttr_checkRejected (s : State) (w : WheelEnd) (r : WheelTyre) : (s.setWheelTyre w r).ttr.checkRejected = s.ttr.checkRejected := rfl
@[simp] theorem setWheelTyre_ttr_formatRejected (s : State) (w : WheelEnd) (r : WheelTyre) : (s.setWheelTyre w r).ttr.formatRejected = s.ttr.formatRejected := rfl
@[simp] theorem setWheelTyre_ttr_strangerCount (s : State) (w : WheelEnd) (r : WheelTyre) : (s.setWheelTyre w r).ttr.strangerCount = s.ttr.strangerCount := rfl
@[simp] theorem setWheelTyre_ttr_strangers (s : State) (w : WheelEnd) (r : WheelTyre) : (s.setWheelTyre w r).ttr.strangers = s.ttr.strangers := rfl
@[simp] theorem setWheelTyre_ttr_learn (s : State) (w : WheelEnd) (r : WheelTyre) : (s.setWheelTyre w r).ttr.learn = s.ttr.learn := rfl
@[simp] theorem setWheelTyre_ttr_tyres (s : State) (w : WheelEnd) (r : WheelTyre) : (s.setWheelTyre w r).ttr.tyres = s.ttr.tyres := rfl
@[simp] theorem setCoil_chc_ref (s : State) (k : Coil) (r : CoilRec) : (s.setCoil k r).chc.ref = s.chc.ref := rfl
@[simp] theorem setCoil_chc_lastCandidate (s : State) (k : Coil) (r : CoilRec) : (s.setCoil k r).chc.lastCandidate = s.chc.lastCandidate := rfl
@[simp] theorem setCoil_chc_slips (s : State) (k : Coil) (r : CoilRec) : (s.setCoil k r).chc.slips = s.chc.slips := rfl
@[simp] theorem setCoil_chc_patrol (s : State) (k : Coil) (r : CoilRec) : (s.setCoil k r).chc.patrol = s.chc.patrol := rfl
@[simp] theorem setCtrl_dar_agree (s : State) (k : Controller) (r : Ctrl) : (s.setCtrl k r).dar.agree = s.dar.agree := rfl
@[simp] theorem setCtrl_dar_agreed (s : State) (k : Controller) (r : Ctrl) : (s.setCtrl k r).dar.agreed = s.dar.agreed := rfl
@[simp] theorem setCtrl_dar_lastAgreed (s : State) (k : Controller) (r : Ctrl) : (s.setCtrl k r).dar.lastAgreed = s.dar.lastAgreed := rfl
@[simp] theorem setCtrl_dar_mode (s : State) (k : Controller) (r : Ctrl) : (s.setCtrl k r).dar.mode = s.dar.mode := rfl
@[simp] theorem setCtrl_dar_e (s : State) (k : Controller) (r : Ctrl) : (s.setCtrl k r).dar.e = s.dar.e := rfl
@[simp] theorem setCtrl_dar_holdDeadline (s : State) (k : Controller) (r : Ctrl) : (s.setCtrl k r).dar.holdDeadline = s.dar.holdDeadline := rfl
@[simp] theorem setCtrl_dar_resume (s : State) (k : Controller) (r : Ctrl) : (s.setCtrl k r).dar.resume = s.dar.resume := rfl
@[simp] theorem setCtrl_dar_startWait (s : State) (k : Controller) (r : Ctrl) : (s.setCtrl k r).dar.startWait = s.dar.startWait := rfl
@[simp] theorem setCtrl_dar_mismatch (s : State) (k : Controller) (r : Ctrl) : (s.setCtrl k r).dar.mismatch = s.dar.mismatch := rfl
@[simp] theorem setCtrl_dar_airLow (s : State) (k : Controller) (r : Ctrl) : (s.setCtrl k r).dar.airLow = s.dar.airLow := rfl
@[simp] theorem setSect_cfs_brake (s : State) (x : Section) (r : SectionRec) : (s.setSect x r).cfs.brake = s.cfs.brake := rfl
@[simp] theorem setSect_cfs_stagedBrake (s : State) (x : Section) (r : SectionRec) : (s.setSect x r).cfs.stagedBrake = s.cfs.stagedBrake := rfl
@[simp] theorem setSect_cfs_tyre (s : State) (x : Section) (r : SectionRec) : (s.setSect x r).cfs.tyre = s.cfs.tyre := rfl
@[simp] theorem setSect_cfs_stagedTyre (s : State) (x : Section) (r : SectionRec) : (s.setSect x r).cfs.stagedTyre = s.cfs.stagedTyre := rfl
@[simp] theorem setSect_cfs_commit (s : State) (x : Section) (r : SectionRec) : (s.setSect x r).cfs.commit = s.cfs.commit := rfl
@[simp] theorem setSect_cfs_write (s : State) (x : Section) (r : SectionRec) : (s.setSect x r).cfs.write = s.cfs.write := rfl
@[simp] theorem setSect_cfs_lastWrite (s : State) (x : Section) (r : SectionRec) : (s.setSect x r).cfs.lastWrite = s.cfs.lastWrite := rfl
@[simp] theorem setSect_cfs_lastWriteTime (s : State) (x : Section) (r : SectionRec) : (s.setSect x r).cfs.lastWriteTime = s.cfs.lastWriteTime := rfl
@[simp] theorem setSect_cfs_brakeGood (s : State) (x : Section) (r : SectionRec) : (s.setSect x r).cfs.brakeGood = s.cfs.brakeGood := rfl
@[simp] theorem setSect_cfs_unconfigured (s : State) (x : Section) (r : SectionRec) : (s.setSect x r).cfs.unconfigured = s.cfs.unconfigured := rfl

/-! ## Time -/

@[simp] theorem tick_icu (s : State) (dt : Delay) : (s.tick dt).icu = s.icu := rfl
@[simp] theorem tick_ttr (s : State) (dt : Delay) : (s.tick dt).ttr = s.ttr := rfl
@[simp] theorem tick_leu (s : State) (dt : Delay) : (s.tick dt).leu = s.leu := rfl
@[simp] theorem tick_lac (s : State) (dt : Delay) : (s.tick dt).lac = s.lac := rfl
@[simp] theorem tick_dar (s : State) (dt : Delay) : (s.tick dt).dar = s.dar := rfl
@[simp] theorem tick_channels (s : State) (dt : Delay) : (s.tick dt).channels = s.channels := rfl
@[simp] theorem tick_chc (s : State) (dt : Delay) : (s.tick dt).chc = s.chc := rfl
@[simp] theorem tick_rsu (s : State) (dt : Delay) : (s.tick dt).rsu = s.rsu := rfl
@[simp] theorem tick_flm (s : State) (dt : Delay) : (s.tick dt).flm = s.flm := rfl
@[simp] theorem tick_cfs (s : State) (dt : Delay) : (s.tick dt).cfs = s.cfs := rfl
@[simp] theorem tick_pif (s : State) (dt : Delay) : (s.tick dt).pif = s.pif := rfl
@[simp] theorem tick_choice (s : State) (dt : Delay) : (s.tick dt).choice = s.choice := rfl
@[simp] theorem tick_pending (s : State) (dt : Delay) : (s.tick dt).pending = s.pending := rfl
@[simp] theorem tick_edges (s : State) (dt : Delay) : (s.tick dt).edges = [] := rfl
@[simp] theorem tick_clock (s : State) (dt : Delay) : (s.tick dt).clock = s.clock.advance dt := rfl

end Sys2Proof.Machine
end

