-- ==== Sys2Proof/Laws/FramesChannels.lean ====
section
/-! SUPPORT. The parts of the state that faults, coils and channels leave as they are (chapters 5, 6 and 8):
one lemma for each shared operation, which lists every part it keeps. -/

namespace Sys2Proof.Machine

/-- What every member of a fold keeps, the fold keeps. -/
theorem foldl_keeps {α β : Type} (g : State → β) (f : State → α → State) (h : ∀ s x, g (f s x) = g s) (l : List α)
    (s : State) : g (l.foldl f s) = g s := by
  induction l generalizing s with
  | nil => rfl
  | cons x l ih => rw [List.foldl_cons, ih, h]

@[simp] theorem watch_clock (cs : List Condition) (f : State → State) (s : State) : (watch cs f s).clock = (f s).clock := rfl
@[simp] theorem watch_icu (cs : List Condition) (f : State → State) (s : State) : (watch cs f s).icu = (f s).icu := rfl
@[simp] theorem watch_ttr (cs : List Condition) (f : State → State) (s : State) : (watch cs f s).ttr = (f s).ttr := rfl
@[simp] theorem watch_leu (cs : List Condition) (f : State → State) (s : State) : (watch cs f s).leu = (f s).leu := rfl
@[simp] theorem watch_lac (cs : List Condition) (f : State → State) (s : State) : (watch cs f s).lac = (f s).lac := rfl
@[simp] theorem watch_dar (cs : List Condition) (f : State → State) (s : State) : (watch cs f s).dar = (f s).dar := rfl
@[simp] theorem watch_channels (cs : List Condition) (f : State → State) (s : State) : (watch cs f s).channels = (f s).channels := rfl
@[simp] theorem watch_chc (cs : List Condition) (f : State → State) (s : State) : (watch cs f s).chc = (f s).chc := rfl
@[simp] theorem watch_rsu (cs : List Condition) (f : State → State) (s : State) : (watch cs f s).rsu = (f s).rsu := rfl
@[simp] theorem watch_flm (cs : List Condition) (f : State → State) (s : State) : (watch cs f s).flm = (f s).flm := rfl
@[simp] theorem watch_cfs (cs : List Condition) (f : State → State) (s : State) : (watch cs f s).cfs = (f s).cfs := rfl
@[simp] theorem watch_pif (cs : List Condition) (f : State → State) (s : State) : (watch cs f s).pif = (f s).pif := rfl
@[simp] theorem watch_choice (cs : List Condition) (f : State → State) (s : State) : (watch cs f s).choice = (f s).choice := rfl
@[simp] theorem watch_pending (cs : List Condition) (f : State → State) (s : State) : (watch cs f s).pending = (f s).pending := rfl

/-- An element taken to the front leaves a list's members as they are. -/
theorem front_perm {α : Type} : ∀ (l : List α) (i : Nat) (h : i < l.length), (l[i] :: l.eraseIdx i).Perm l
  | _ :: _, 0, _ => .refl _
  | x :: l, i + 1, h => (List.Perm.swap x _ _).trans ((front_perm l i (Nat.lt_of_succ_lt_succ h)).cons x)

/-- A free order takes every member once. -/
theorem freeOrder_perm {α : Type} (fuel k : Nat) (l : List α) : (freeOrder fuel k l).Perm l := by
  induction fuel generalizing k l with
  | zero => exact .refl l
  | succ fuel ih =>
    unfold freeOrder
    split
    · exact .refl l
    · dsimp only
      split
      · rename_i x h
        obtain ⟨hi, rfl⟩ := List.getElem?_eq_some_iff.mp h
        exact ((ih _ _).cons _).trans (front_perm l _ hi)
      · exact .refl l

theorem ordered_perm {α : Type} (s : State) (l : List α) : (s.ordered l).1.Perm l := by
  unfold State.ordered
  split
  · exact .refl l
  · exact freeOrder_perm _ _ l

@[simp] theorem ordered_keeps (s : State) {α : Type} (l : List α) :
    ((s.ordered l).2).clock = s.clock ∧ ((s.ordered l).2).icu = s.icu ∧ ((s.ordered l).2).ttr = s.ttr ∧
    ((s.ordered l).2).leu = s.leu ∧ ((s.ordered l).2).lac = s.lac ∧ ((s.ordered l).2).dar = s.dar ∧
    ((s.ordered l).2).channels = s.channels ∧ ((s.ordered l).2).chc = s.chc ∧ ((s.ordered l).2).rsu = s.rsu ∧
    ((s.ordered l).2).flm = s.flm ∧ ((s.ordered l).2).cfs = s.cfs ∧ ((s.ordered l).2).pif = s.pif ∧
    ((s.ordered l).2).pending = s.pending := by
  simp only [State.ordered]
  split <;> simp

@[simp] theorem coin_keeps (s : State) :
    (s.coin.2).clock = s.clock ∧ (s.coin.2).icu = s.icu ∧ (s.coin.2).ttr = s.ttr ∧ (s.coin.2).leu = s.leu ∧
    (s.coin.2).lac = s.lac ∧ (s.coin.2).dar = s.dar ∧ (s.coin.2).channels = s.channels ∧ (s.coin.2).chc = s.chc ∧
    (s.coin.2).rsu = s.rsu ∧ (s.coin.2).flm = s.flm ∧ (s.coin.2).cfs = s.cfs ∧ (s.coin.2).pif = s.pif ∧
    (s.coin.2).pending = s.pending := by
  simp [State.coin]

@[simp] theorem raise_keeps (s : State) (x : FaultPair) :
    (raise x s).clock = s.clock ∧ (raise x s).icu = s.icu ∧ (raise x s).ttr = s.ttr ∧ (raise x s).leu = s.leu ∧
    (raise x s).lac = s.lac ∧ (raise x s).dar = s.dar ∧ (raise x s).channels = s.channels ∧
    (raise x s).chc = s.chc ∧ (raise x s).rsu = s.rsu ∧ (raise x s).cfs = s.cfs ∧ (raise x s).pif = s.pif ∧
    (raise x s).choice = s.choice ∧ (raise x s).pending = s.pending := by
  simp only [raise]
  repeat' split
  all_goals first | done | simp

@[simp] theorem clear_keeps (s : State) (x : FaultPair) :
    (clear x s).clock = s.clock ∧ (clear x s).icu = s.icu ∧ (clear x s).ttr = s.ttr ∧ (clear x s).leu = s.leu ∧
    (clear x s).lac = s.lac ∧ (clear x s).dar = s.dar ∧ (clear x s).channels = s.channels ∧
    (clear x s).chc = s.chc ∧ (clear x s).rsu = s.rsu ∧ (clear x s).cfs = s.cfs ∧ (clear x s).pif = s.pif ∧
    (clear x s).choice = s.choice ∧ (clear x s).pending = s.pending := by
  simp only [clear]
  repeat' split
  all_goals first | done | simp

@[simp] theorem FaultOp_run_keeps (s : State) (o : FaultOp) :
    (FaultOp.run s o).clock = s.clock ∧ (FaultOp.run s o).icu = s.icu ∧ (FaultOp.run s o).ttr = s.ttr ∧
    (FaultOp.run s o).leu = s.leu ∧ (FaultOp.run s o).lac = s.lac ∧ (FaultOp.run s o).dar = s.dar ∧
    (FaultOp.run s o).channels = s.channels ∧ (FaultOp.run s o).chc = s.chc ∧ (FaultOp.run s o).rsu = s.rsu ∧
    (FaultOp.run s o).cfs = s.cfs ∧ (FaultOp.run s o).pif = s.pif ∧ (FaultOp.run s o).choice = s.choice ∧
    (FaultOp.run s o).pending = s.pending := by
  simp only [FaultOp.run]
  repeat' split
  all_goals first | done | simp

@[simp] theorem faultOps_keeps (s : State) (l : List FaultOp) :
    (faultOps l s).clock = s.clock ∧ (faultOps l s).icu = s.icu ∧ (faultOps l s).ttr = s.ttr ∧
    (faultOps l s).leu = s.leu ∧ (faultOps l s).lac = s.lac ∧ (faultOps l s).dar = s.dar ∧
    (faultOps l s).channels = s.channels ∧ (faultOps l s).chc = s.chc ∧ (faultOps l s).rsu = s.rsu ∧
    (faultOps l s).cfs = s.cfs ∧ (faultOps l s).pif = s.pif ∧ (faultOps l s).pending = s.pending := by
  simp only [faultOps]
  refine ⟨(foldl_keeps (·.clock) _ (fun s x => ?_) _ _).trans ?_, (foldl_keeps (·.icu) _ (fun s x => ?_) _ _).trans ?_, (foldl_keeps (·.ttr) _ (fun s x => ?_) _ _).trans ?_, (foldl_keeps (·.leu) _ (fun s x => ?_) _ _).trans ?_, (foldl_keeps (·.lac) _ (fun s x => ?_) _ _).trans ?_, (foldl_keeps (·.dar) _ (fun s x => ?_) _ _).trans ?_, (foldl_keeps (·.channels) _ (fun s x => ?_) _ _).trans ?_, (foldl_keeps (·.chc) _ (fun s x => ?_) _ _).trans ?_, (foldl_keeps (·.rsu) _ (fun s x => ?_) _ _).trans ?_, (foldl_keeps (·.cfs) _ (fun s x => ?_) _ _).trans ?_, (foldl_keeps (·.pif) _ (fun s x => ?_) _ _).trans ?_, (foldl_keeps (·.pending) _ (fun s x => ?_) _ _).trans ?_⟩
  all_goals simp

@[simp] theorem raiseAll_keeps (s : State) (l : List FaultPair) :
    (raiseAll l s).clock = s.clock ∧ (raiseAll l s).icu = s.icu ∧ (raiseAll l s).ttr = s.ttr ∧
    (raiseAll l s).leu = s.leu ∧ (raiseAll l s).lac = s.lac ∧ (raiseAll l s).dar = s.dar ∧
    (raiseAll l s).channels = s.channels ∧ (raiseAll l s).chc = s.chc ∧ (raiseAll l s).rsu = s.rsu ∧
    (raiseAll l s).cfs = s.cfs ∧ (raiseAll l s).pif = s.pif ∧ (raiseAll l s).pending = s.pending := by
  simp only [raiseAll]
  repeat' split
  all_goals first | done | simp

@[simp] theorem reweigh_keeps (s : State) :
    (reweigh s).clock = s.clock ∧ (reweigh s).icu = s.icu ∧ (reweigh s).ttr = s.ttr ∧ (reweigh s).leu = s.leu ∧
    (reweigh s).lac = s.lac ∧ (reweigh s).dar = s.dar ∧ (reweigh s).channels = s.channels ∧
    (reweigh s).chc = s.chc ∧ (reweigh s).rsu = s.rsu ∧ (reweigh s).cfs = s.cfs ∧ (reweigh s).pif = s.pif ∧
    (reweigh s).choice = s.choice ∧ (reweigh s).pending = s.pending := by
  simp only [reweigh]
  repeat' split
  all_goals first | done | simp

@[simp] theorem clearInactiveEntries_keeps (s : State) :
    (clearInactiveEntries s).clock = s.clock ∧ (clearInactiveEntries s).icu = s.icu ∧
    (clearInactiveEntries s).ttr = s.ttr ∧ (clearInactiveEntries s).leu = s.leu ∧
    (clearInactiveEntries s).lac = s.lac ∧ (clearInactiveEntries s).dar = s.dar ∧
    (clearInactiveEntries s).channels = s.channels ∧ (clearInactiveEntries s).chc = s.chc ∧
    (clearInactiveEntries s).rsu = s.rsu ∧ (clearInactiveEntries s).cfs = s.cfs ∧
    (clearInactiveEntries s).pif = s.pif ∧ (clearInactiveEntries s).choice = s.choice ∧
    (clearInactiveEntries s).pending = s.pending := by
  simp only [clearInactiveEntries]
  repeat' split
  all_goals first | done | simp

@[simp] theorem emptyActive_keeps (s : State) :
    (emptyActive s).clock = s.clock ∧ (emptyActive s).icu = s.icu ∧ (emptyActive s).ttr = s.ttr ∧
    (emptyActive s).leu = s.leu ∧ (emptyActive s).lac = s.lac ∧ (emptyActive s).dar = s.dar ∧
    (emptyActive s).channels = s.channels ∧ (emptyActive s).chc = s.chc ∧ (emptyActive s).rsu = s.rsu ∧
    (emptyActive s).cfs = s.cfs ∧ (emptyActive s).pif = s.pif ∧ (emptyActive s).choice = s.choice ∧
    (emptyActive s).pending = s.pending := by
  simp only [emptyActive]
  repeat' split
  all_goals first | done | simp

@[simp] theorem commandCoil_keeps (s : State) (k : Coil) (on : Bool) :
    (commandCoil k on s).clock = s.clock ∧ (commandCoil k on s).icu = s.icu ∧ (commandCoil k on s).ttr = s.ttr ∧
    (commandCoil k on s).leu = s.leu ∧ (commandCoil k on s).lac = s.lac ∧ (commandCoil k on s).dar = s.dar ∧
    (commandCoil k on s).channels = s.channels ∧ (commandCoil k on s).rsu = s.rsu ∧
    (commandCoil k on s).flm = s.flm ∧ (commandCoil k on s).cfs = s.cfs ∧ (commandCoil k on s).pif = s.pif ∧
    (commandCoil k on s).choice = s.choice ∧ (commandCoil k on s).pending = s.pending := by
  simp only [commandCoil]
  repeat' split
  all_goals first | done | simp

@[simp] theorem setAction_keeps (s : State) (c : Channel) (a : CoilAction) :
    (setAction c a s).clock = s.clock ∧ (setAction c a s).icu = s.icu ∧ (setAction c a s).ttr = s.ttr ∧
    (setAction c a s).leu = s.leu ∧ (setAction c a s).lac = s.lac ∧ (setAction c a s).dar = s.dar ∧
    (setAction c a s).rsu = s.rsu ∧ (setAction c a s).flm = s.flm ∧ (setAction c a s).cfs = s.cfs ∧
    (setAction c a s).pif = s.pif ∧ (setAction c a s).choice = s.choice ∧
    (setAction c a s).pending = s.pending := by
  simp only [setAction]
  repeat' split
  all_goals first | done | simp

@[simp] theorem enter_keeps (s : State) (c : Channel) (st : ChState) (a : CoilAction) (f : ChannelRec → ChannelRec) :
    (enter c st a f s).clock = s.clock ∧ (enter c st a f s).icu = s.icu ∧ (enter c st a f s).ttr = s.ttr ∧
    (enter c st a f s).leu = s.leu ∧ (enter c st a f s).lac = s.lac ∧ (enter c st a f s).dar = s.dar ∧
    (enter c st a f s).rsu = s.rsu ∧ (enter c st a f s).flm = s.flm ∧ (enter c st a f s).cfs = s.cfs ∧
    (enter c st a f s).pif = s.pif ∧ (enter c st a f s).choice = s.choice ∧
    (enter c st a f s).pending = s.pending := by
  simp only [enter]
  repeat' split
  all_goals first | done | simp

@[simp] theorem judgeTracking_keeps (s : State) (c : Channel) :
    (judgeTracking c s).clock = s.clock ∧ (judgeTracking c s).icu = s.icu ∧ (judgeTracking c s).ttr = s.ttr ∧
    (judgeTracking c s).leu = s.leu ∧ (judgeTracking c s).lac = s.lac ∧ (judgeTracking c s).dar = s.dar ∧
    (judgeTracking c s).chc = s.chc ∧ (judgeTracking c s).rsu = s.rsu ∧ (judgeTracking c s).flm = s.flm ∧
    (judgeTracking c s).cfs = s.cfs ∧ (judgeTracking c s).pif = s.pif ∧ (judgeTracking c s).choice = s.choice ∧
    (judgeTracking c s).pending = s.pending := by
  simp only [judgeTracking]
  repeat' split
  all_goals first | done | simp

@[simp] theorem enterRegulate_keeps (s : State) (c : Channel) :
    (enterRegulate c s).clock = s.clock ∧ (enterRegulate c s).icu = s.icu ∧ (enterRegulate c s).ttr = s.ttr ∧
    (enterRegulate c s).leu = s.leu ∧ (enterRegulate c s).lac = s.lac ∧ (enterRegulate c s).dar = s.dar ∧
    (enterRegulate c s).rsu = s.rsu ∧ (enterRegulate c s).flm = s.flm ∧ (enterRegulate c s).cfs = s.cfs ∧
    (enterRegulate c s).pif = s.pif ∧ (enterRegulate c s).choice = s.choice ∧
    (enterRegulate c s).pending = s.pending := by
  simp only [enterRegulate]
  repeat' split
  all_goals first | done | simp

@[simp] theorem enterConverge_keeps (s : State) (c : Channel) :
    (enterConverge c s).clock = s.clock ∧ (enterConverge c s).icu = s.icu ∧ (enterConverge c s).ttr = s.ttr ∧
    (enterConverge c s).leu = s.leu ∧ (enterConverge c s).lac = s.lac ∧ (enterConverge c s).dar = s.dar ∧
    (enterConverge c s).rsu = s.rsu ∧ (enterConverge c s).flm = s.flm ∧ (enterConverge c s).cfs = s.cfs ∧
    (enterConverge c s).pif = s.pif ∧ (enterConverge c s).choice = s.choice ∧
    (enterConverge c s).pending = s.pending := by
  simp only [enterConverge]
  repeat' split
  all_goals first | done | simp

@[simp] theorem enterSafeHold_keeps (s : State) (c : Channel) :
    (enterSafeHold c s).clock = s.clock ∧ (enterSafeHold c s).icu = s.icu ∧ (enterSafeHold c s).ttr = s.ttr ∧
    (enterSafeHold c s).leu = s.leu ∧ (enterSafeHold c s).lac = s.lac ∧ (enterSafeHold c s).dar = s.dar ∧
    (enterSafeHold c s).rsu = s.rsu ∧ (enterSafeHold c s).flm = s.flm ∧ (enterSafeHold c s).cfs = s.cfs ∧
    (enterSafeHold c s).pif = s.pif ∧ (enterSafeHold c s).choice = s.choice ∧
    (enterSafeHold c s).pending = s.pending := by
  simp only [enterSafeHold]
  repeat' split
  all_goals first | done | simp

@[simp] theorem enterAntilockHold_keeps (s : State) (c : Channel) :
    (enterAntilockHold c s).clock = s.clock ∧ (enterAntilockHold c s).icu = s.icu ∧
    (enterAntilockHold c s).ttr = s.ttr ∧ (enterAntilockHold c s).leu = s.leu ∧
    (enterAntilockHold c s).lac = s.lac ∧ (enterAntilockHold c s).dar = s.dar ∧
    (enterAntilockHold c s).rsu = s.rsu ∧ (enterAntilockHold c s).flm = s.flm ∧
    (enterAntilockHold c s).cfs = s.cfs ∧ (enterAntilockHold c s).pif = s.pif ∧
    (enterAntilockHold c s).choice = s.choice ∧ (enterAntilockHold c s).pending = s.pending := by
  simp only [enterAntilockHold]
  repeat' split
  all_goals first | done | simp

@[simp] theorem enterReapply_keeps (s : State) (c : Channel) :
    (enterReapply c s).clock = s.clock ∧ (enterReapply c s).icu = s.icu ∧ (enterReapply c s).ttr = s.ttr ∧
    (enterReapply c s).leu = s.leu ∧ (enterReapply c s).lac = s.lac ∧ (enterReapply c s).dar = s.dar ∧
    (enterReapply c s).rsu = s.rsu ∧ (enterReapply c s).flm = s.flm ∧ (enterReapply c s).cfs = s.cfs ∧
    (enterReapply c s).pif = s.pif ∧ (enterReapply c s).choice = s.choice ∧
    (enterReapply c s).pending = s.pending := by
  simp only [enterReapply]
  repeat' split
  all_goals first | done | simp

@[simp] theorem rampStep_keeps (s : State) (c : Channel) :
    (rampStep c s).clock = s.clock ∧ (rampStep c s).icu = s.icu ∧ (rampStep c s).ttr = s.ttr ∧
    (rampStep c s).leu = s.leu ∧ (rampStep c s).lac = s.lac ∧ (rampStep c s).dar = s.dar ∧
    (rampStep c s).rsu = s.rsu ∧ (rampStep c s).flm = s.flm ∧ (rampStep c s).cfs = s.cfs ∧
    (rampStep c s).pif = s.pif ∧ (rampStep c s).choice = s.choice ∧ (rampStep c s).pending = s.pending := by
  simp only [rampStep]
  repeat' split
  all_goals first | done | simp

@[simp] theorem onSetpoint_keeps (s : State) (c : Channel) :
    (onSetpoint c s).clock = s.clock ∧ (onSetpoint c s).icu = s.icu ∧ (onSetpoint c s).ttr = s.ttr ∧
    (onSetpoint c s).leu = s.leu ∧ (onSetpoint c s).lac = s.lac ∧ (onSetpoint c s).dar = s.dar ∧
    (onSetpoint c s).rsu = s.rsu ∧ (onSetpoint c s).flm = s.flm ∧ (onSetpoint c s).cfs = s.cfs ∧
    (onSetpoint c s).pif = s.pif ∧ (onSetpoint c s).choice = s.choice ∧ (onSetpoint c s).pending = s.pending := by
  simp only [onSetpoint]
  repeat' split
  all_goals first | done | simp

@[simp] theorem enterDump_keeps (s : State) (b : Bool) (c : Channel) :
    (enterDump b c s).clock = s.clock ∧ (enterDump b c s).icu = s.icu ∧ (enterDump b c s).ttr = s.ttr ∧
    (enterDump b c s).leu = s.leu ∧ (enterDump b c s).lac = s.lac ∧ (enterDump b c s).dar = s.dar ∧
    (enterDump b c s).rsu = s.rsu ∧ (enterDump b c s).flm = s.flm ∧ (enterDump b c s).cfs = s.cfs ∧
    (enterDump b c s).pif = s.pif ∧ (enterDump b c s).choice = s.choice ∧
    (enterDump b c s).pending = s.pending := by
  simp only [enterDump]
  repeat' split
  all_goals first | done | simp

@[simp] theorem updateDrag_keeps (s : State) (w : WheelEnd) :
    (updateDrag s w).clock = s.clock ∧ (updateDrag s w).icu = s.icu ∧ (updateDrag s w).leu = s.leu ∧
    (updateDrag s w).lac = s.lac ∧ (updateDrag s w).dar = s.dar ∧ (updateDrag s w).channels = s.channels ∧
    (updateDrag s w).chc = s.chc ∧ (updateDrag s w).rsu = s.rsu ∧ (updateDrag s w).cfs = s.cfs ∧
    (updateDrag s w).pif = s.pif ∧ (updateDrag s w).choice = s.choice ∧ (updateDrag s w).pending = s.pending := by
  simp only [updateDrag]
  repeat' split
  all_goals first | done | simp

@[simp] theorem compute_keeps (s : State) (c : Channel) :
    (compute s c).clock = s.clock ∧ (compute s c).icu = s.icu ∧ (compute s c).leu = s.leu ∧
    (compute s c).lac = s.lac ∧ (compute s c).dar = s.dar ∧ (compute s c).rsu = s.rsu ∧ (compute s c).cfs = s.cfs ∧
    (compute s c).pif = s.pif ∧ (compute s c).choice = s.choice ∧ (compute s c).pending = s.pending := by
  simp only [compute]
  split
  · simp
  · refine ⟨(foldl_keeps (·.clock) _ (fun s x => ?_) _ _).trans ?_, (foldl_keeps (·.icu) _ (fun s x => ?_) _ _).trans ?_, (foldl_keeps (·.leu) _ (fun s x => ?_) _ _).trans ?_, (foldl_keeps (·.lac) _ (fun s x => ?_) _ _).trans ?_, (foldl_keeps (·.dar) _ (fun s x => ?_) _ _).trans ?_, (foldl_keeps (·.rsu) _ (fun s x => ?_) _ _).trans ?_, (foldl_keeps (·.cfs) _ (fun s x => ?_) _ _).trans ?_, (foldl_keeps (·.pif) _ (fun s x => ?_) _ _).trans ?_, (foldl_keeps (·.choice) _ (fun s x => ?_) _ _).trans ?_, (foldl_keeps (·.pending) _ (fun s x => ?_) _ _).trans ?_⟩
    all_goals simp

@[simp] theorem computeAll_keeps (s : State) (l : List Channel) :
    (computeAll l s).clock = s.clock ∧ (computeAll l s).icu = s.icu ∧ (computeAll l s).leu = s.leu ∧
    (computeAll l s).lac = s.lac ∧ (computeAll l s).dar = s.dar ∧ (computeAll l s).rsu = s.rsu ∧
    (computeAll l s).cfs = s.cfs ∧ (computeAll l s).pif = s.pif ∧ (computeAll l s).choice = s.choice ∧
    (computeAll l s).pending = s.pending := by
  simp only [computeAll]
  refine ⟨foldl_keeps (·.clock) _ (fun s x => ?_) _ s, foldl_keeps (·.icu) _ (fun s x => ?_) _ s, foldl_keeps (·.leu) _ (fun s x => ?_) _ s, foldl_keeps (·.lac) _ (fun s x => ?_) _ s, foldl_keeps (·.dar) _ (fun s x => ?_) _ s, foldl_keeps (·.rsu) _ (fun s x => ?_) _ s, foldl_keeps (·.cfs) _ (fun s x => ?_) _ s, foldl_keeps (·.pif) _ (fun s x => ?_) _ s, foldl_keeps (·.choice) _ (fun s x => ?_) _ s, foldl_keeps (·.pending) _ (fun s x => ?_) _ s⟩
  all_goals first | (split <;> simp; done) | (dsimp only; split <;> simp; done) | simp

@[simp] theorem toPassthrough_keeps (s : State) (c : Channel) :
    (toPassthrough c s).clock = s.clock ∧ (toPassthrough c s).icu = s.icu ∧ (toPassthrough c s).leu = s.leu ∧
    (toPassthrough c s).lac = s.lac ∧ (toPassthrough c s).dar = s.dar ∧ (toPassthrough c s).rsu = s.rsu ∧
    (toPassthrough c s).cfs = s.cfs ∧ (toPassthrough c s).pif = s.pif ∧ (toPassthrough c s).choice = s.choice ∧
    (toPassthrough c s).pending = s.pending := by
  simp only [toPassthrough]
  repeat' split
  all_goals first | done | simp

@[simp] theorem latch_keeps (s : State) (c : Channel) (f : Latched → Latched) :
    (latch c f s).clock = s.clock ∧ (latch c f s).icu = s.icu ∧ (latch c f s).leu = s.leu ∧
    (latch c f s).lac = s.lac ∧ (latch c f s).dar = s.dar ∧ (latch c f s).rsu = s.rsu ∧ (latch c f s).cfs = s.cfs ∧
    (latch c f s).pif = s.pif ∧ (latch c f s).choice = s.choice ∧ (latch c f s).pending = s.pending := by
  simp only [latch]
  repeat' split
  all_goals first | done | simp

@[simp] theorem latchCoil_keeps (s : State) (c : Channel) :
    (latchCoil c s).clock = s.clock ∧ (latchCoil c s).icu = s.icu ∧ (latchCoil c s).leu = s.leu ∧
    (latchCoil c s).lac = s.lac ∧ (latchCoil c s).dar = s.dar ∧ (latchCoil c s).rsu = s.rsu ∧
    (latchCoil c s).cfs = s.cfs ∧ (latchCoil c s).pif = s.pif ∧ (latchCoil c s).choice = s.choice ∧
    (latchCoil c s).pending = s.pending := by
  simp only [latchCoil]
  repeat' split
  all_goals first | done | simp

@[simp] theorem latchSensor_keeps (s : State) (c : Channel) :
    (latchSensor c s).clock = s.clock ∧ (latchSensor c s).icu = s.icu ∧ (latchSensor c s).leu = s.leu ∧
    (latchSensor c s).lac = s.lac ∧ (latchSensor c s).dar = s.dar ∧ (latchSensor c s).rsu = s.rsu ∧
    (latchSensor c s).cfs = s.cfs ∧ (latchSensor c s).pif = s.pif ∧ (latchSensor c s).choice = s.choice ∧
    (latchSensor c s).pending = s.pending := by
  simp only [latchSensor]
  repeat' split
  all_goals first | done | simp

@[simp] theorem latchTracking_keeps (s : State) (c : Channel) :
    (latchTracking c s).clock = s.clock ∧ (latchTracking c s).icu = s.icu ∧ (latchTracking c s).leu = s.leu ∧
    (latchTracking c s).lac = s.lac ∧ (latchTracking c s).dar = s.dar ∧ (latchTracking c s).rsu = s.rsu ∧
    (latchTracking c s).cfs = s.cfs ∧ (latchTracking c s).pif = s.pif ∧ (latchTracking c s).choice = s.choice ∧
    (latchTracking c s).pending = s.pending := by
  simp only [latchTracking]
  repeat' split
  all_goals first | done | simp

@[simp] theorem toInhibited_keeps (s : State) (c : Channel) :
    (toInhibited c s).clock = s.clock ∧ (toInhibited c s).icu = s.icu ∧ (toInhibited c s).leu = s.leu ∧
    (toInhibited c s).lac = s.lac ∧ (toInhibited c s).dar = s.dar ∧ (toInhibited c s).rsu = s.rsu ∧
    (toInhibited c s).cfs = s.cfs ∧ (toInhibited c s).pif = s.pif ∧ (toInhibited c s).choice = s.choice ∧
    (toInhibited c s).pending = s.pending := by
  simp only [toInhibited]
  repeat' split
  all_goals first | done | simp

@[simp] theorem leaveInhibited_keeps (s : State) (c : Channel) :
    (leaveInhibited c s).clock = s.clock ∧ (leaveInhibited c s).icu = s.icu ∧ (leaveInhibited c s).leu = s.leu ∧
    (leaveInhibited c s).lac = s.lac ∧ (leaveInhibited c s).dar = s.dar ∧ (leaveInhibited c s).rsu = s.rsu ∧
    (leaveInhibited c s).cfs = s.cfs ∧ (leaveInhibited c s).pif = s.pif ∧ (leaveInhibited c s).choice = s.choice ∧
    (leaveInhibited c s).pending = s.pending := by
  simp only [leaveInhibited]
  repeat' split
  all_goals first | done | simp

@[simp] theorem safeAction_keeps (s : State) (c : Channel) :
    (safeAction c s).clock = s.clock ∧ (safeAction c s).icu = s.icu ∧ (safeAction c s).leu = s.leu ∧
    (safeAction c s).lac = s.lac ∧ (safeAction c s).dar = s.dar ∧ (safeAction c s).rsu = s.rsu ∧
    (safeAction c s).cfs = s.cfs ∧ (safeAction c s).pif = s.pif ∧ (safeAction c s).choice = s.choice ∧
    (safeAction c s).pending = s.pending := by
  simp only [safeAction]
  repeat' split
  all_goals first | done | simp

@[simp] theorem judgeDeparture_keeps (s : State) (c : Channel) :
    (judgeDeparture s c).clock = s.clock ∧ (judgeDeparture s c).icu = s.icu ∧ (judgeDeparture s c).leu = s.leu ∧
    (judgeDeparture s c).lac = s.lac ∧ (judgeDeparture s c).dar = s.dar ∧ (judgeDeparture s c).rsu = s.rsu ∧
    (judgeDeparture s c).cfs = s.cfs ∧ (judgeDeparture s c).pif = s.pif ∧ (judgeDeparture s c).choice = s.choice ∧
    (judgeDeparture s c).pending = s.pending := by
  simp only [judgeDeparture]
  repeat' split
  all_goals first | done | simp

@[simp] theorem convergeRequest_keeps (s : State) (c : Channel) :
    (convergeRequest s c).clock = s.clock ∧ (convergeRequest s c).icu = s.icu ∧ (convergeRequest s c).ttr = s.ttr ∧
    (convergeRequest s c).leu = s.leu ∧ (convergeRequest s c).lac = s.lac ∧ (convergeRequest s c).dar = s.dar ∧
    (convergeRequest s c).rsu = s.rsu ∧ (convergeRequest s c).flm = s.flm ∧ (convergeRequest s c).cfs = s.cfs ∧
    (convergeRequest s c).pif = s.pif ∧ (convergeRequest s c).choice = s.choice ∧
    (convergeRequest s c).pending = s.pending := by
  simp only [convergeRequest]
  repeat' split
  all_goals first | done | simp

@[simp] theorem decide120_keeps (s : State) (c : Channel) (target : Int) :
    (decide120 c target s).clock = s.clock ∧ (decide120 c target s).icu = s.icu ∧
    (decide120 c target s).ttr = s.ttr ∧ (decide120 c target s).leu = s.leu ∧ (decide120 c target s).lac = s.lac ∧
    (decide120 c target s).dar = s.dar ∧ (decide120 c target s).rsu = s.rsu ∧ (decide120 c target s).flm = s.flm ∧
    (decide120 c target s).cfs = s.cfs ∧ (decide120 c target s).pif = s.pif ∧
    (decide120 c target s).choice = s.choice ∧ (decide120 c target s).pending = s.pending := by
  simp only [decide120]
  repeat' split
  all_goals first | done | simp

@[simp] theorem onPressure_keeps (s : State) (c : Channel) (b : Bool) :
    (onPressure c b s).clock = s.clock ∧ (onPressure c b s).icu = s.icu ∧ (onPressure c b s).leu = s.leu ∧
    (onPressure c b s).lac = s.lac ∧ (onPressure c b s).dar = s.dar ∧ (onPressure c b s).rsu = s.rsu ∧
    (onPressure c b s).cfs = s.cfs ∧ (onPressure c b s).pif = s.pif ∧ (onPressure c b s).choice = s.choice ∧
    (onPressure c b s).pending = s.pending := by
  simp only [onPressure]
  repeat' split
  all_goals first | done | simp

@[simp] theorem writeSlip_keeps (s : State) (c : Channel) :
    (writeSlip s c).clock = s.clock ∧ (writeSlip s c).icu = s.icu ∧ (writeSlip s c).ttr = s.ttr ∧
    (writeSlip s c).leu = s.leu ∧ (writeSlip s c).lac = s.lac ∧ (writeSlip s c).dar = s.dar ∧
    (writeSlip s c).chc = s.chc ∧ (writeSlip s c).rsu = s.rsu ∧ (writeSlip s c).flm = s.flm ∧
    (writeSlip s c).cfs = s.cfs ∧ (writeSlip s c).pif = s.pif ∧ (writeSlip s c).choice = s.choice ∧
    (writeSlip s c).pending = s.pending := by
  simp only [writeSlip]
  repeat' split
  all_goals first | done | simp

@[simp] theorem evaluateReference_keeps (s : State) :
    (evaluateReference s).clock = s.clock ∧ (evaluateReference s).icu = s.icu ∧ (evaluateReference s).ttr = s.ttr ∧
    (evaluateReference s).leu = s.leu ∧ (evaluateReference s).lac = s.lac ∧ (evaluateReference s).dar = s.dar ∧
    (evaluateReference s).rsu = s.rsu ∧ (evaluateReference s).flm = s.flm ∧ (evaluateReference s).cfs = s.cfs ∧
    (evaluateReference s).pif = s.pif ∧ (evaluateReference s).choice = s.choice ∧
    (evaluateReference s).pending = s.pending := by
  simp only [evaluateReference]
  refine ⟨(foldl_keeps (·.clock) _ (fun s x => ?_) _ _).trans ?_, (foldl_keeps (·.icu) _ (fun s x => ?_) _ _).trans ?_, (foldl_keeps (·.ttr) _ (fun s x => ?_) _ _).trans ?_, (foldl_keeps (·.leu) _ (fun s x => ?_) _ _).trans ?_, (foldl_keeps (·.lac) _ (fun s x => ?_) _ _).trans ?_, (foldl_keeps (·.dar) _ (fun s x => ?_) _ _).trans ?_, (foldl_keeps (·.rsu) _ (fun s x => ?_) _ _).trans ?_, (foldl_keeps (·.flm) _ (fun s x => ?_) _ _).trans ?_, (foldl_keeps (·.cfs) _ (fun s x => ?_) _ _).trans ?_, (foldl_keeps (·.pif) _ (fun s x => ?_) _ _).trans ?_, (foldl_keeps (·.choice) _ (fun s x => ?_) _ _).trans ?_, (foldl_keeps (·.pending) _ (fun s x => ?_) _ _).trans ?_⟩
  all_goals simp

@[simp] theorem judgeAntilock_keeps (s : State) (c : Channel) :
    (judgeAntilock s c).clock = s.clock ∧ (judgeAntilock s c).icu = s.icu ∧ (judgeAntilock s c).ttr = s.ttr ∧
    (judgeAntilock s c).leu = s.leu ∧ (judgeAntilock s c).lac = s.lac ∧ (judgeAntilock s c).dar = s.dar ∧
    (judgeAntilock s c).rsu = s.rsu ∧ (judgeAntilock s c).flm = s.flm ∧ (judgeAntilock s c).cfs = s.cfs ∧
    (judgeAntilock s c).pif = s.pif ∧ (judgeAntilock s c).choice = s.choice ∧
    (judgeAntilock s c).pending = s.pending := by
  simp only [judgeAntilock]
  repeat' split
  all_goals first | done | simp

@[simp] theorem antilockAll_keeps (s : State) :
    (antilockAll s).clock = s.clock ∧ (antilockAll s).icu = s.icu ∧ (antilockAll s).ttr = s.ttr ∧
    (antilockAll s).leu = s.leu ∧ (antilockAll s).lac = s.lac ∧ (antilockAll s).dar = s.dar ∧
    (antilockAll s).rsu = s.rsu ∧ (antilockAll s).flm = s.flm ∧ (antilockAll s).cfs = s.cfs ∧
    (antilockAll s).pif = s.pif ∧ (antilockAll s).choice = s.choice ∧ (antilockAll s).pending = s.pending := by
  simp only [antilockAll]
  refine ⟨foldl_keeps (·.clock) _ (fun s x => ?_) _ s, foldl_keeps (·.icu) _ (fun s x => ?_) _ s, foldl_keeps (·.ttr) _ (fun s x => ?_) _ s, foldl_keeps (·.leu) _ (fun s x => ?_) _ s, foldl_keeps (·.lac) _ (fun s x => ?_) _ s, foldl_keeps (·.dar) _ (fun s x => ?_) _ s, foldl_keeps (·.rsu) _ (fun s x => ?_) _ s, foldl_keeps (·.flm) _ (fun s x => ?_) _ s, foldl_keeps (·.cfs) _ (fun s x => ?_) _ s, foldl_keeps (·.pif) _ (fun s x => ?_) _ s, foldl_keeps (·.choice) _ (fun s x => ?_) _ s, foldl_keeps (·.pending) _ (fun s x => ?_) _ s⟩
  all_goals first | (split <;> simp; done) | (dsimp only; split <;> simp; done) | simp

@[simp] theorem judgeUnavailable_keeps (s : State) :
    (judgeUnavailable s).clock = s.clock ∧ (judgeUnavailable s).icu = s.icu ∧ (judgeUnavailable s).ttr = s.ttr ∧
    (judgeUnavailable s).leu = s.leu ∧ (judgeUnavailable s).lac = s.lac ∧ (judgeUnavailable s).dar = s.dar ∧
    (judgeUnavailable s).channels = s.channels ∧ (judgeUnavailable s).chc = s.chc ∧
    (judgeUnavailable s).rsu = s.rsu ∧ (judgeUnavailable s).cfs = s.cfs ∧ (judgeUnavailable s).pif = s.pif ∧
    (judgeUnavailable s).pending = s.pending := by
  simp only [judgeUnavailable]
  repeat' split
  all_goals first | done | simp

@[simp] theorem latchOwner_keeps (s : State) (k : Coil) (x : TestResult) :
    (latchOwner k x s).clock = s.clock ∧ (latchOwner k x s).icu = s.icu ∧ (latchOwner k x s).leu = s.leu ∧
    (latchOwner k x s).lac = s.lac ∧ (latchOwner k x s).dar = s.dar ∧ (latchOwner k x s).rsu = s.rsu ∧
    (latchOwner k x s).cfs = s.cfs ∧ (latchOwner k x s).pif = s.pif ∧ (latchOwner k x s).choice = s.choice ∧
    (latchOwner k x s).pending = s.pending := by
  simp only [latchOwner]
  repeat' split
  all_goals first | done | simp

@[simp] theorem coilResult_keeps (s : State) (k : Coil) (x : TestResult) :
    (coilResult k x s).clock = s.clock ∧ (coilResult k x s).icu = s.icu ∧ (coilResult k x s).leu = s.leu ∧
    (coilResult k x s).lac = s.lac ∧ (coilResult k x s).dar = s.dar ∧ (coilResult k x s).rsu = s.rsu ∧
    (coilResult k x s).cfs = s.cfs ∧ (coilResult k x s).pif = s.pif ∧ (coilResult k x s).pending = s.pending := by
  simp only [coilResult]
  repeat' split
  all_goals first | done | simp

end Sys2Proof.Machine
end

