-- ==== Sys2Proof/Laws/FramesLoads.lean ====
section
/-! SUPPORT. The parts of the state that loads, roll stability and the lift axle leave as they are (chapters 3
and 7). -/

namespace Sys2Proof.Machine

@[simp] theorem recomputeThresholds_keeps (s : State) :
    (recomputeThresholds s).clock = s.clock ∧ (recomputeThresholds s).icu = s.icu ∧
    (recomputeThresholds s).ttr = s.ttr ∧ (recomputeThresholds s).leu = s.leu ∧
    (recomputeThresholds s).lac = s.lac ∧ (recomputeThresholds s).dar = s.dar ∧
    (recomputeThresholds s).channels = s.channels ∧ (recomputeThresholds s).chc = s.chc ∧
    (recomputeThresholds s).flm = s.flm ∧ (recomputeThresholds s).cfs = s.cfs ∧
    (recomputeThresholds s).pif = s.pif ∧ (recomputeThresholds s).choice = s.choice ∧
    (recomputeThresholds s).pending = s.pending := by
  simp only [recomputeThresholds]
  repeat' split
  all_goals first | done | simp

@[simp] theorem publishFloors_keeps (s : State) :
    (publishFloors s).clock = s.clock ∧ (publishFloors s).icu = s.icu ∧ (publishFloors s).leu = s.leu ∧
    (publishFloors s).lac = s.lac ∧ (publishFloors s).dar = s.dar ∧ (publishFloors s).cfs = s.cfs ∧
    (publishFloors s).pif = s.pif ∧ (publishFloors s).choice = s.choice ∧
    (publishFloors s).pending = s.pending := by
  simp only [publishFloors]
  repeat' split
  all_goals first | done | simp

@[simp] theorem recomputeFill_keeps (s : State) :
    (recomputeFill s).clock = s.clock ∧ (recomputeFill s).icu = s.icu ∧ (recomputeFill s).ttr = s.ttr ∧
    (recomputeFill s).lac = s.lac ∧ (recomputeFill s).dar = s.dar ∧ (recomputeFill s).channels = s.channels ∧
    (recomputeFill s).chc = s.chc ∧ (recomputeFill s).flm = s.flm ∧ (recomputeFill s).cfs = s.cfs ∧
    (recomputeFill s).pif = s.pif ∧ (recomputeFill s).choice = s.choice ∧
    (recomputeFill s).pending = s.pending := by
  simp only [recomputeFill]
  repeat' split
  all_goals first | done | simp

@[simp] theorem setApplied_keeps (s : State) (x y z : Marked) :
    (setApplied x y z s).clock = s.clock ∧ (setApplied x y z s).icu = s.icu ∧ (setApplied x y z s).lac = s.lac ∧
    (setApplied x y z s).dar = s.dar ∧ (setApplied x y z s).cfs = s.cfs ∧ (setApplied x y z s).pif = s.pif ∧
    (setApplied x y z s).choice = s.choice ∧ (setApplied x y z s).pending = s.pending := by
  simp only [setApplied]
  repeat' split
  all_goals first | done | simp

@[simp] theorem follow_keeps (s : State) :
    (follow s).clock = s.clock ∧ (follow s).icu = s.icu ∧ (follow s).lac = s.lac ∧ (follow s).dar = s.dar ∧
    (follow s).cfs = s.cfs ∧ (follow s).pif = s.pif ∧ (follow s).choice = s.choice ∧
    (follow s).pending = s.pending := by
  simp only [follow]
  repeat' split
  all_goals first | done | simp

@[simp] theorem recomputeLive_keeps (s : State) :
    (recomputeLive s).clock = s.clock ∧ (recomputeLive s).icu = s.icu ∧ (recomputeLive s).ttr = s.ttr ∧
    (recomputeLive s).lac = s.lac ∧ (recomputeLive s).dar = s.dar ∧ (recomputeLive s).channels = s.channels ∧
    (recomputeLive s).chc = s.chc ∧ (recomputeLive s).rsu = s.rsu ∧ (recomputeLive s).flm = s.flm ∧
    (recomputeLive s).cfs = s.cfs ∧ (recomputeLive s).pif = s.pif ∧ (recomputeLive s).choice = s.choice ∧
    (recomputeLive s).pending = s.pending := by
  simp only [recomputeLive]
  repeat' split
  all_goals first | done | simp

@[simp] theorem recomputeSensor_keeps (s : State) (b : Bellows) :
    (recomputeSensor s b).clock = s.clock ∧ (recomputeSensor s b).icu = s.icu ∧ (recomputeSensor s b).ttr = s.ttr ∧
    (recomputeSensor s b).lac = s.lac ∧ (recomputeSensor s b).dar = s.dar ∧
    (recomputeSensor s b).channels = s.channels ∧ (recomputeSensor s b).chc = s.chc ∧
    (recomputeSensor s b).rsu = s.rsu ∧ (recomputeSensor s b).flm = s.flm ∧ (recomputeSensor s b).cfs = s.cfs ∧
    (recomputeSensor s b).pif = s.pif ∧ (recomputeSensor s b).choice = s.choice ∧
    (recomputeSensor s b).pending = s.pending := by
  simp only [recomputeSensor]
  repeat' split
  all_goals first | done | simp

@[simp] theorem recomputeSensors_keeps (s : State) (l : List Bellows) :
    (recomputeSensors l s).clock = s.clock ∧ (recomputeSensors l s).icu = s.icu ∧
    (recomputeSensors l s).lac = s.lac ∧ (recomputeSensors l s).dar = s.dar ∧ (recomputeSensors l s).cfs = s.cfs ∧
    (recomputeSensors l s).pif = s.pif ∧ (recomputeSensors l s).choice = s.choice ∧
    (recomputeSensors l s).pending = s.pending := by
  simp only [recomputeSensors, follow_keeps, recomputeLive_keeps]
  refine ⟨foldl_keeps (·.clock) _ (fun s x => ?_) _ s, foldl_keeps (·.icu) _ (fun s x => ?_) _ s, foldl_keeps (·.lac) _ (fun s x => ?_) _ s, foldl_keeps (·.dar) _ (fun s x => ?_) _ s, foldl_keeps (·.cfs) _ (fun s x => ?_) _ s, foldl_keeps (·.pif) _ (fun s x => ?_) _ s, foldl_keeps (·.choice) _ (fun s x => ?_) _ s, foldl_keeps (·.pending) _ (fun s x => ?_) _ s⟩
  all_goals simp

@[simp] theorem loadsOnLift_keeps (s : State) :
    (loadsOnLift s).clock = s.clock ∧ (loadsOnLift s).icu = s.icu ∧ (loadsOnLift s).lac = s.lac ∧
    (loadsOnLift s).dar = s.dar ∧ (loadsOnLift s).cfs = s.cfs ∧ (loadsOnLift s).pif = s.pif ∧
    (loadsOnLift s).choice = s.choice ∧ (loadsOnLift s).pending = s.pending := by
  simp only [loadsOnLift]
  repeat' split
  all_goals first | done | simp

@[simp] theorem releaseLoads_keeps (s : State) :
    (releaseLoads s).clock = s.clock ∧ (releaseLoads s).icu = s.icu ∧ (releaseLoads s).lac = s.lac ∧
    (releaseLoads s).dar = s.dar ∧ (releaseLoads s).cfs = s.cfs ∧ (releaseLoads s).pif = s.pif ∧
    (releaseLoads s).choice = s.choice ∧ (releaseLoads s).pending = s.pending := by
  simp only [releaseLoads]
  repeat' split
  all_goals first | done | simp

@[simp] theorem timeRelease_keeps (s : State) :
    (timeRelease s).clock = s.clock ∧ (timeRelease s).icu = s.icu ∧ (timeRelease s).ttr = s.ttr ∧
    (timeRelease s).lac = s.lac ∧ (timeRelease s).dar = s.dar ∧ (timeRelease s).channels = s.channels ∧
    (timeRelease s).chc = s.chc ∧ (timeRelease s).rsu = s.rsu ∧ (timeRelease s).flm = s.flm ∧
    (timeRelease s).cfs = s.cfs ∧ (timeRelease s).pif = s.pif ∧ (timeRelease s).choice = s.choice ∧
    (timeRelease s).pending = s.pending := by
  simp only [timeRelease]
  repeat' split
  all_goals first | done | simp

@[simp] theorem freezeIf_keeps (s : State) (b : Bool) :
    (freezeIf b s).clock = s.clock ∧ (freezeIf b s).icu = s.icu ∧ (freezeIf b s).ttr = s.ttr ∧
    (freezeIf b s).lac = s.lac ∧ (freezeIf b s).dar = s.dar ∧ (freezeIf b s).channels = s.channels ∧
    (freezeIf b s).chc = s.chc ∧ (freezeIf b s).rsu = s.rsu ∧ (freezeIf b s).flm = s.flm ∧
    (freezeIf b s).cfs = s.cfs ∧ (freezeIf b s).pif = s.pif ∧ (freezeIf b s).choice = s.choice ∧
    (freezeIf b s).pending = s.pending := by
  simp only [freezeIf]
  repeat' split
  all_goals first | done | simp

@[simp] theorem loadsOnDemand_keeps (s : State) :
    (loadsOnDemand s).clock = s.clock ∧ (loadsOnDemand s).icu = s.icu ∧ (loadsOnDemand s).ttr = s.ttr ∧
    (loadsOnDemand s).lac = s.lac ∧ (loadsOnDemand s).dar = s.dar ∧ (loadsOnDemand s).channels = s.channels ∧
    (loadsOnDemand s).chc = s.chc ∧ (loadsOnDemand s).rsu = s.rsu ∧ (loadsOnDemand s).flm = s.flm ∧
    (loadsOnDemand s).cfs = s.cfs ∧ (loadsOnDemand s).pif = s.pif ∧ (loadsOnDemand s).choice = s.choice ∧
    (loadsOnDemand s).pending = s.pending := by
  simp only [loadsOnDemand]
  repeat' split
  all_goals first | done | simp

@[simp] theorem loadsOnAlat_keeps (s : State) :
    (loadsOnAlat s).clock = s.clock ∧ (loadsOnAlat s).icu = s.icu ∧ (loadsOnAlat s).ttr = s.ttr ∧
    (loadsOnAlat s).lac = s.lac ∧ (loadsOnAlat s).dar = s.dar ∧ (loadsOnAlat s).channels = s.channels ∧
    (loadsOnAlat s).chc = s.chc ∧ (loadsOnAlat s).rsu = s.rsu ∧ (loadsOnAlat s).flm = s.flm ∧
    (loadsOnAlat s).cfs = s.cfs ∧ (loadsOnAlat s).pif = s.pif ∧ (loadsOnAlat s).choice = s.choice ∧
    (loadsOnAlat s).pending = s.pending := by
  simp only [loadsOnAlat]
  repeat' split
  all_goals first | done | simp

@[simp] theorem endSession_keeps (s : State) (e : CalEnd) :
    (endSession e s).clock = s.clock ∧ (endSession e s).icu = s.icu ∧ (endSession e s).ttr = s.ttr ∧
    (endSession e s).lac = s.lac ∧ (endSession e s).dar = s.dar ∧ (endSession e s).channels = s.channels ∧
    (endSession e s).chc = s.chc ∧ (endSession e s).rsu = s.rsu ∧ (endSession e s).flm = s.flm ∧
    (endSession e s).cfs = s.cfs ∧ (endSession e s).pif = s.pif ∧ (endSession e s).choice = s.choice ∧
    (endSession e s).pending = s.pending := by
  simp only [endSession]
  repeat' split
  all_goals first | done | simp

@[simp] theorem calAbort_keeps (s : State) :
    (calAbort s).clock = s.clock ∧ (calAbort s).icu = s.icu ∧ (calAbort s).ttr = s.ttr ∧ (calAbort s).lac = s.lac ∧
    (calAbort s).dar = s.dar ∧ (calAbort s).channels = s.channels ∧ (calAbort s).chc = s.chc ∧
    (calAbort s).rsu = s.rsu ∧ (calAbort s).flm = s.flm ∧ (calAbort s).cfs = s.cfs ∧ (calAbort s).pif = s.pif ∧
    (calAbort s).choice = s.choice ∧ (calAbort s).pending = s.pending := by
  simp only [calAbort]
  repeat' split
  all_goals first | done | simp

@[simp] theorem writeCauses_keeps (s : State) :
    (writeCauses s).clock = s.clock ∧ (writeCauses s).icu = s.icu ∧ (writeCauses s).ttr = s.ttr ∧
    (writeCauses s).leu = s.leu ∧ (writeCauses s).lac = s.lac ∧ (writeCauses s).dar = s.dar ∧
    (writeCauses s).channels = s.channels ∧ (writeCauses s).chc = s.chc ∧ (writeCauses s).flm = s.flm ∧
    (writeCauses s).cfs = s.cfs ∧ (writeCauses s).pif = s.pif ∧ (writeCauses s).choice = s.choice ∧
    (writeCauses s).pending = s.pending := by
  simp only [writeCauses]
  repeat' split
  all_goals first | done | simp

@[simp] theorem timeQuiet_keeps (s : State) :
    (timeQuiet s).clock = s.clock ∧ (timeQuiet s).icu = s.icu ∧ (timeQuiet s).ttr = s.ttr ∧
    (timeQuiet s).leu = s.leu ∧ (timeQuiet s).lac = s.lac ∧ (timeQuiet s).dar = s.dar ∧
    (timeQuiet s).channels = s.channels ∧ (timeQuiet s).chc = s.chc ∧ (timeQuiet s).flm = s.flm ∧
    (timeQuiet s).cfs = s.cfs ∧ (timeQuiet s).pif = s.pif ∧ (timeQuiet s).choice = s.choice ∧
    (timeQuiet s).pending = s.pending := by
  simp only [timeQuiet]
  repeat' split
  all_goals first | done | simp

@[simp] theorem setRoll_keeps (s : State) (f : Rsu → Rsu) :
    (setRoll f s).clock = s.clock ∧ (setRoll f s).icu = s.icu ∧ (setRoll f s).leu = s.leu ∧
    (setRoll f s).lac = s.lac ∧ (setRoll f s).dar = s.dar ∧ (setRoll f s).cfs = s.cfs ∧ (setRoll f s).pif = s.pif ∧
    (setRoll f s).choice = s.choice ∧ (setRoll f s).pending = s.pending := by
  simp only [setRoll]
  repeat' split
  all_goals first | done | simp

@[simp] theorem rollToWatch_keeps (s : State) :
    (rollToWatch s).clock = s.clock ∧ (rollToWatch s).icu = s.icu ∧ (rollToWatch s).leu = s.leu ∧
    (rollToWatch s).lac = s.lac ∧ (rollToWatch s).dar = s.dar ∧ (rollToWatch s).cfs = s.cfs ∧
    (rollToWatch s).pif = s.pif ∧ (rollToWatch s).choice = s.choice ∧ (rollToWatch s).pending = s.pending := by
  simp only [rollToWatch]
  repeat' split
  all_goals first | done | simp

@[simp] theorem rollToUnavailable_keeps (s : State) :
    (rollToUnavailable s).clock = s.clock ∧ (rollToUnavailable s).icu = s.icu ∧ (rollToUnavailable s).leu = s.leu ∧
    (rollToUnavailable s).lac = s.lac ∧ (rollToUnavailable s).dar = s.dar ∧ (rollToUnavailable s).cfs = s.cfs ∧
    (rollToUnavailable s).pif = s.pif ∧ (rollToUnavailable s).choice = s.choice ∧
    (rollToUnavailable s).pending = s.pending := by
  simp only [rollToUnavailable]
  repeat' split
  all_goals first | done | simp

@[simp] theorem probeEnds_keeps (s : State) :
    (probeEnds s).clock = s.clock ∧ (probeEnds s).icu = s.icu ∧ (probeEnds s).leu = s.leu ∧
    (probeEnds s).lac = s.lac ∧ (probeEnds s).dar = s.dar ∧ (probeEnds s).cfs = s.cfs ∧ (probeEnds s).pif = s.pif ∧
    (probeEnds s).choice = s.choice ∧ (probeEnds s).pending = s.pending := by
  simp only [probeEnds]
  repeat' split
  all_goals first | done | simp

@[simp] theorem rollToRecover_keeps (s : State) :
    (rollToRecover s).clock = s.clock ∧ (rollToRecover s).icu = s.icu ∧ (rollToRecover s).leu = s.leu ∧
    (rollToRecover s).lac = s.lac ∧ (rollToRecover s).dar = s.dar ∧ (rollToRecover s).cfs = s.cfs ∧
    (rollToRecover s).pif = s.pif ∧ (rollToRecover s).choice = s.choice ∧
    (rollToRecover s).pending = s.pending := by
  simp only [rollToRecover]
  repeat' split
  all_goals first | done | simp

@[simp] theorem rollToProbe_keeps (s : State) :
    (rollToProbe s).clock = s.clock ∧ (rollToProbe s).icu = s.icu ∧ (rollToProbe s).leu = s.leu ∧
    (rollToProbe s).lac = s.lac ∧ (rollToProbe s).dar = s.dar ∧ (rollToProbe s).cfs = s.cfs ∧
    (rollToProbe s).pif = s.pif ∧ (rollToProbe s).choice = s.choice ∧ (rollToProbe s).pending = s.pending := by
  simp only [rollToProbe]
  repeat' split
  all_goals first | done | simp

@[simp] theorem rollToIntervene_keeps (s : State) (k : IntCause) (x : Option Side) :
    (rollToIntervene k x s).clock = s.clock ∧ (rollToIntervene k x s).icu = s.icu ∧
    (rollToIntervene k x s).leu = s.leu ∧ (rollToIntervene k x s).lac = s.lac ∧
    (rollToIntervene k x s).dar = s.dar ∧ (rollToIntervene k x s).cfs = s.cfs ∧
    (rollToIntervene k x s).pif = s.pif ∧ (rollToIntervene k x s).choice = s.choice ∧
    (rollToIntervene k x s).pending = s.pending := by
  simp only [rollToIntervene]
  repeat' split
  all_goals first | done | simp

/-- R149: what a publication finds of the holdoff: ended where no probe has ended or more than `probe_holdoff` has
passed since, running where less has, and either at its end; nothing but the index of the next choice moves. -/
theorem holdoffOver_cases (s : State) :
    (s.rsu.lastProbeEnd = none ∧ holdoffOver s = (true, s)) ∨
    (∃ d, s.rsu.lastProbeEnd = some d ∧
      ((s.brake.probeHoldoff < since s.now d ∧ holdoffOver s = (true, s)) ∨
       (since s.now d < s.brake.probeHoldoff ∧ holdoffOver s = (false, s)) ∨
       (since s.now d = s.brake.probeHoldoff ∧ holdoffOver s = s.coin))) := by
  unfold holdoffOver
  cases h : s.rsu.lastProbeEnd with
  | none => exact .inl ⟨rfl, rfl⟩
  | some d =>
    refine .inr ⟨d, rfl, ?_⟩
    obtain hlt | heq | hgt := Nat.lt_trichotomy (since s.now d) s.brake.probeHoldoff
    · exact .inr (.inl ⟨hlt, by simp [Nat.ne_of_lt hlt, Nat.not_lt_of_gt hlt]⟩)
    · exact .inr (.inr ⟨heq, by simp [heq]⟩)
    · exact .inl ⟨hgt, by simp [Nat.ne_of_gt hgt, hgt]⟩

@[simp] theorem holdoffOver_keeps (s : State) :
    ((holdoffOver s).2).clock = s.clock ∧ ((holdoffOver s).2).icu = s.icu ∧ ((holdoffOver s).2).ttr = s.ttr ∧
    ((holdoffOver s).2).leu = s.leu ∧ ((holdoffOver s).2).lac = s.lac ∧ ((holdoffOver s).2).dar = s.dar ∧
    ((holdoffOver s).2).channels = s.channels ∧ ((holdoffOver s).2).chc = s.chc ∧
    ((holdoffOver s).2).rsu = s.rsu ∧ ((holdoffOver s).2).flm = s.flm ∧ ((holdoffOver s).2).cfs = s.cfs ∧
    ((holdoffOver s).2).pif = s.pif ∧ ((holdoffOver s).2).pending = s.pending := by
  obtain ⟨-, h⟩ | ⟨d, -, ⟨-, h⟩ | ⟨-, h⟩ | ⟨-, h⟩⟩ := holdoffOver_cases s <;> simp [h]

/-- R149: all that a publication in WATCH can do. -/
theorem judgeEntry_cases (s : State) :
    judgeEntry s = s ∨
    (s.rsu.state = .watch ∧ s.rollCauses.any = false ∧ s.brake.probeMinSpeed ≤ s.chc.ref.val ∧
      s.rsu.aProbe ≤ s.alatMag ∧
      ((s.rsu.aThr ≤ s.alatMag ∧ judgeEntry s = rollToIntervene .lateral none (rollToProbe s)) ∨
       (s.alatMag < s.rsu.aThr ∧ (holdoffOver s).1 = true ∧ judgeEntry s = rollToProbe (holdoffOver s).2) ∨
       (s.alatMag < s.rsu.aThr ∧ (holdoffOver s).1 = false ∧ judgeEntry s = (holdoffOver s).2))) := by
  unfold judgeEntry
  split
  · rename_i h
    refine .inr ⟨h.1, h.2.1, h.2.2.1, h.2.2.2, ?_⟩
    split
    · exact .inl ⟨‹_›, rfl⟩
    · have hlt := Int.not_le.mp ‹_›
      cases hb : (holdoffOver s).1
      · exact .inr (.inr ⟨hlt, rfl, by simp [hb]⟩)
      · exact .inr (.inl ⟨hlt, rfl, by simp [hb]⟩)
  · exact .inl rfl

/-- R149: where the holdoff ends in the millisecond of a publication that meets the other conditions, what holds of the
state in PROBE and of the state that waits holds of the outcome, and nothing else is known of it. -/
theorem judgeEntry_at_holdoff_end {P : State → Prop} {s : State}
    (hs : s.rsu.state = .watch ∧ s.rollCauses.any = false ∧ s.brake.probeMinSpeed ≤ s.chc.ref.val ∧
      s.rsu.aProbe ≤ s.alatMag)
    (hn : s.alatMag < s.rsu.aThr) (hd : s.rsu.lastProbeEnd.map (since s.now) = some s.brake.probeHoldoff)
    (hp : P (rollToProbe s.coin.2)) (hw : P s.coin.2) : P (judgeEntry s) := by
  obtain ⟨d, hl, he⟩ := Option.map_eq_some_iff.mp hd
  have hc : holdoffOver s = s.coin := by simp [holdoffOver, hl, he]
  simp only [judgeEntry, if_pos hs, if_neg (Int.not_le.mpr hn), hc]
  split
  · exact hp
  · exact hw

@[simp] theorem judgeEntry_keeps (s : State) :
    (judgeEntry s).clock = s.clock ∧ (judgeEntry s).icu = s.icu ∧ (judgeEntry s).leu = s.leu ∧
    (judgeEntry s).lac = s.lac ∧ (judgeEntry s).dar = s.dar ∧ (judgeEntry s).cfs = s.cfs ∧
    (judgeEntry s).pif = s.pif ∧ (judgeEntry s).pending = s.pending := by
  simp only [judgeEntry]
  repeat' split
  all_goals first | done | simp

@[simp] theorem judgeCauses_keeps (s : State) :
    (judgeCauses s).clock = s.clock ∧ (judgeCauses s).icu = s.icu ∧ (judgeCauses s).leu = s.leu ∧
    (judgeCauses s).lac = s.lac ∧ (judgeCauses s).dar = s.dar ∧ (judgeCauses s).cfs = s.cfs ∧
    (judgeCauses s).pif = s.pif ∧ (judgeCauses s).choice = s.choice ∧ (judgeCauses s).pending = s.pending := by
  simp only [judgeCauses]
  repeat' split
  all_goals first | done | simp

@[simp] theorem judgeAlat_keeps (s : State) :
    (judgeAlat s).clock = s.clock ∧ (judgeAlat s).icu = s.icu ∧ (judgeAlat s).leu = s.leu ∧
    (judgeAlat s).lac = s.lac ∧ (judgeAlat s).dar = s.dar ∧ (judgeAlat s).cfs = s.cfs ∧ (judgeAlat s).pif = s.pif ∧
    (judgeAlat s).pending = s.pending := by
  simp only [judgeAlat]
  repeat' split
  all_goals first | done | simp

@[simp] theorem rollOnAlat_keeps (s : State) :
    (rollOnAlat s).clock = s.clock ∧ (rollOnAlat s).icu = s.icu ∧ (rollOnAlat s).leu = s.leu ∧
    (rollOnAlat s).lac = s.lac ∧ (rollOnAlat s).dar = s.dar ∧ (rollOnAlat s).cfs = s.cfs ∧
    (rollOnAlat s).pif = s.pif ∧ (rollOnAlat s).pending = s.pending := by
  simp only [rollOnAlat]
  repeat' split
  all_goals first | done | simp

@[simp] theorem judgeReference_keeps (s : State) :
    (judgeReference s).clock = s.clock ∧ (judgeReference s).icu = s.icu ∧ (judgeReference s).leu = s.leu ∧
    (judgeReference s).lac = s.lac ∧ (judgeReference s).dar = s.dar ∧ (judgeReference s).cfs = s.cfs ∧
    (judgeReference s).pif = s.pif ∧ (judgeReference s).pending = s.pending := by
  simp only [judgeReference]
  repeat' split
  all_goals first | done | simp

@[simp] theorem rollOnReference_keeps (s : State) :
    (rollOnReference s).clock = s.clock ∧ (rollOnReference s).icu = s.icu ∧ (rollOnReference s).leu = s.leu ∧
    (rollOnReference s).lac = s.lac ∧ (rollOnReference s).dar = s.dar ∧ (rollOnReference s).cfs = s.cfs ∧
    (rollOnReference s).pif = s.pif ∧ (rollOnReference s).pending = s.pending := by
  simp only [rollOnReference]
  repeat' split
  all_goals first | done | simp

/-- R149: an ALAT publication that finds WATCH, or brings it, judges the entry. -/
theorem rollOnAlat_watch {s : State} (h : (judgeCauses s).rsu.state = .watch) :
    rollOnAlat s = judgeEntry (judgeCauses s) := by simp [rollOnAlat, judgeAlat, h]

/-- R149: a reference-speed publication that finds WATCH, or brings it, judges the entry. -/
theorem rollOnReference_watch {s : State} (h : (judgeCauses s).rsu.state = .watch) :
    rollOnReference s = judgeEntry (judgeCauses s) := by simp [rollOnReference, judgeReference, h]

@[simp] theorem rollOnMode_keeps (s : State) :
    (rollOnMode s).clock = s.clock ∧ (rollOnMode s).icu = s.icu ∧ (rollOnMode s).leu = s.leu ∧
    (rollOnMode s).lac = s.lac ∧ (rollOnMode s).dar = s.dar ∧ (rollOnMode s).cfs = s.cfs ∧
    (rollOnMode s).pif = s.pif ∧ (rollOnMode s).choice = s.choice ∧ (rollOnMode s).pending = s.pending := by
  simp only [rollOnMode]
  repeat' split
  all_goals first | done | simp

@[simp] theorem rollStep_keeps (s : State) :
    (rollStep s).clock = s.clock ∧ (rollStep s).icu = s.icu ∧ (rollStep s).leu = s.leu ∧ (rollStep s).lac = s.lac ∧
    (rollStep s).dar = s.dar ∧ (rollStep s).cfs = s.cfs ∧ (rollStep s).pif = s.pif ∧
    (rollStep s).choice = s.choice ∧ (rollStep s).pending = s.pending := by
  simp only [rollStep]
  repeat' split
  all_goals first | done | simp

@[simp] theorem rollDisable_keeps (s : State) :
    (rollDisable s).clock = s.clock ∧ (rollDisable s).icu = s.icu ∧ (rollDisable s).leu = s.leu ∧
    (rollDisable s).lac = s.lac ∧ (rollDisable s).dar = s.dar ∧ (rollDisable s).cfs = s.cfs ∧
    (rollDisable s).pif = s.pif ∧ (rollDisable s).choice = s.choice ∧ (rollDisable s).pending = s.pending := by
  simp only [rollDisable]
  repeat' split
  all_goals first | done | simp

@[simp] theorem rollEnable_keeps (s : State) :
    (rollEnable s).clock = s.clock ∧ (rollEnable s).icu = s.icu ∧ (rollEnable s).leu = s.leu ∧
    (rollEnable s).lac = s.lac ∧ (rollEnable s).dar = s.dar ∧ (rollEnable s).cfs = s.cfs ∧
    (rollEnable s).pif = s.pif ∧ (rollEnable s).choice = s.choice ∧ (rollEnable s).pending = s.pending := by
  simp only [rollEnable]
  repeat' split
  all_goals first | done | simp

@[simp] theorem slipsOnLift_keeps (s : State) :
    (slipsOnLift s).clock = s.clock ∧ (slipsOnLift s).icu = s.icu ∧ (slipsOnLift s).ttr = s.ttr ∧
    (slipsOnLift s).leu = s.leu ∧ (slipsOnLift s).lac = s.lac ∧ (slipsOnLift s).dar = s.dar ∧
    (slipsOnLift s).rsu = s.rsu ∧ (slipsOnLift s).flm = s.flm ∧ (slipsOnLift s).cfs = s.cfs ∧
    (slipsOnLift s).pif = s.pif ∧ (slipsOnLift s).choice = s.choice ∧ (slipsOnLift s).pending = s.pending := by
  simp only [slipsOnLift]
  repeat' split
  all_goals first | done | simp

/-- R157: off DOWN the slips of axle 1 are 0 and the other wheel ends keep theirs. -/
theorem slipsOnLift_slips (s : State) (h : s.lac.state ≠ .down) :
    (slipsOnLift s).chc = { s.chc with slips := { s.chc.slips with w1L := 0, w1R := 0 } } := by
  simp [slipsOnLift, h]

@[simp] theorem channelsOnLift_keeps (s : State) :
    (channelsOnLift s).clock = s.clock ∧ (channelsOnLift s).icu = s.icu ∧ (channelsOnLift s).leu = s.leu ∧
    (channelsOnLift s).lac = s.lac ∧ (channelsOnLift s).dar = s.dar ∧ (channelsOnLift s).rsu = s.rsu ∧
    (channelsOnLift s).cfs = s.cfs ∧ (channelsOnLift s).pif = s.pif ∧ (channelsOnLift s).choice = s.choice ∧
    (channelsOnLift s).pending = s.pending := by
  simp only [channelsOnLift]
  repeat' split
  all_goals first | done | simp

@[simp] theorem setLift_keeps (s : State) (st : LiftState) (d : Option Stamp) :
    (setLift st d s).clock = s.clock ∧ (setLift st d s).icu = s.icu ∧ (setLift st d s).dar = s.dar ∧
    (setLift st d s).cfs = s.cfs ∧ (setLift st d s).pif = s.pif ∧ (setLift st d s).choice = s.choice ∧
    (setLift st d s).pending = s.pending := by
  simp only [setLift]
  repeat' split
  all_goals first | done | simp

@[simp] theorem liftTimeout_keeps (s : State) :
    (liftTimeout s).clock = s.clock ∧ (liftTimeout s).icu = s.icu ∧ (liftTimeout s).ttr = s.ttr ∧
    (liftTimeout s).leu = s.leu ∧ (liftTimeout s).dar = s.dar ∧ (liftTimeout s).channels = s.channels ∧
    (liftTimeout s).chc = s.chc ∧ (liftTimeout s).rsu = s.rsu ∧ (liftTimeout s).cfs = s.cfs ∧
    (liftTimeout s).pif = s.pif ∧ (liftTimeout s).choice = s.choice ∧ (liftTimeout s).pending = s.pending := by
  simp only [liftTimeout]
  repeat' split
  all_goals first | done | simp

@[simp] theorem beginRaise_keeps (s : State) :
    (beginRaise s).clock = s.clock ∧ (beginRaise s).icu = s.icu ∧ (beginRaise s).dar = s.dar ∧
    (beginRaise s).cfs = s.cfs ∧ (beginRaise s).pif = s.pif ∧ (beginRaise s).choice = s.choice ∧
    (beginRaise s).pending = s.pending := by
  simp only [beginRaise]
  repeat' split
  all_goals first | done | simp

@[simp] theorem forceLower_keeps (s : State) :
    (forceLower s).clock = s.clock ∧ (forceLower s).icu = s.icu ∧ (forceLower s).dar = s.dar ∧
    (forceLower s).cfs = s.cfs ∧ (forceLower s).pif = s.pif ∧ (forceLower s).choice = s.choice ∧
    (forceLower s).pending = s.pending := by
  simp only [forceLower]
  repeat' split
  all_goals first | done | simp

@[simp] theorem reachUp_keeps (s : State) :
    (reachUp s).clock = s.clock ∧ (reachUp s).icu = s.icu ∧ (reachUp s).dar = s.dar ∧ (reachUp s).cfs = s.cfs ∧
    (reachUp s).pif = s.pif ∧ (reachUp s).choice = s.choice ∧ (reachUp s).pending = s.pending := by
  simp only [reachUp]
  repeat' split
  all_goals first | done | simp

@[simp] theorem reachDown_keeps (s : State) :
    (reachDown s).clock = s.clock ∧ (reachDown s).icu = s.icu ∧ (reachDown s).dar = s.dar ∧
    (reachDown s).cfs = s.cfs ∧ (reachDown s).pif = s.pif ∧ (reachDown s).choice = s.choice ∧
    (reachDown s).pending = s.pending := by
  simp only [reachDown]
  repeat' split
  all_goals first | done | simp

@[simp] theorem liftOnPbx_keeps (s : State) :
    (liftOnPbx s).clock = s.clock ∧ (liftOnPbx s).icu = s.icu ∧ (liftOnPbx s).dar = s.dar ∧
    (liftOnPbx s).cfs = s.cfs ∧ (liftOnPbx s).pif = s.pif ∧ (liftOnPbx s).choice = s.choice ∧
    (liftOnPbx s).pending = s.pending := by
  simp only [liftOnPbx]
  repeat' split
  all_goals first | done | simp

@[simp] theorem timeAuto_keeps (s : State) :
    (timeAuto s).clock = s.clock ∧ (timeAuto s).icu = s.icu ∧ (timeAuto s).ttr = s.ttr ∧ (timeAuto s).leu = s.leu ∧
    (timeAuto s).dar = s.dar ∧ (timeAuto s).channels = s.channels ∧ (timeAuto s).chc = s.chc ∧
    (timeAuto s).rsu = s.rsu ∧ (timeAuto s).flm = s.flm ∧ (timeAuto s).cfs = s.cfs ∧ (timeAuto s).pif = s.pif ∧
    (timeAuto s).choice = s.choice ∧ (timeAuto s).pending = s.pending := by
  simp only [timeAuto]
  repeat' split
  all_goals first | done | simp

@[simp] theorem lacReact_keeps (s : State) :
    (lacReact s).clock = s.clock ∧ (lacReact s).icu = s.icu ∧ (lacReact s).dar = s.dar ∧ (lacReact s).cfs = s.cfs ∧
    (lacReact s).pif = s.pif ∧ (lacReact s).choice = s.choice ∧ (lacReact s).pending = s.pending := by
  simp only [lacReact]
  repeat' split
  all_goals first | done | simp

@[simp] theorem latchRequest_keeps (s : State) (src : LiftSource) (b : LiftRequest) (o : LiftOutcome) (d : Option LiftBar) :
    (latchRequest src b o d s).clock = s.clock ∧ (latchRequest src b o d s).icu = s.icu ∧
    (latchRequest src b o d s).ttr = s.ttr ∧ (latchRequest src b o d s).leu = s.leu ∧
    (latchRequest src b o d s).dar = s.dar ∧ (latchRequest src b o d s).channels = s.channels ∧
    (latchRequest src b o d s).chc = s.chc ∧ (latchRequest src b o d s).rsu = s.rsu ∧
    (latchRequest src b o d s).flm = s.flm ∧ (latchRequest src b o d s).cfs = s.cfs ∧
    (latchRequest src b o d s).pif = s.pif ∧ (latchRequest src b o d s).choice = s.choice ∧
    (latchRequest src b o d s).pending = s.pending := by
  simp only [latchRequest]
  repeat' split
  all_goals first | done | simp

@[simp] theorem requestRaise_keeps (s : State) (src : LiftSource) (o : LiftOutcome) :
    (requestRaise src o s).clock = s.clock ∧ (requestRaise src o s).icu = s.icu ∧
    (requestRaise src o s).dar = s.dar ∧ (requestRaise src o s).cfs = s.cfs ∧ (requestRaise src o s).pif = s.pif ∧
    (requestRaise src o s).choice = s.choice ∧ (requestRaise src o s).pending = s.pending := by
  simp only [requestRaise]
  repeat' split
  all_goals first | done | simp

@[simp] theorem requestLower_keeps (s : State) (src : LiftSource) :
    (requestLower src s).clock = s.clock ∧ (requestLower src s).icu = s.icu ∧ (requestLower src s).dar = s.dar ∧
    (requestLower src s).cfs = s.cfs ∧ (requestLower src s).pif = s.pif ∧ (requestLower src s).choice = s.choice ∧
    (requestLower src s).pending = s.pending := by
  simp only [requestLower]
  repeat' split
  all_goals first | done | simp

@[simp] theorem press_keeps (s : State) :
    (press s).clock = s.clock ∧ (press s).icu = s.icu ∧ (press s).dar = s.dar ∧ (press s).cfs = s.cfs ∧
    (press s).pif = s.pif ∧ (press s).choice = s.choice ∧ (press s).pending = s.pending := by
  simp only [press]
  repeat' split
  all_goals first | done | simp

end Sys2Proof.Machine
end

