-- ==== Sys2Proof/Laws/FramesDemand.lean ====
section
/-! SUPPORT. The parts of the state that the demand arbiter and the input conditioning unit leave as they are
(chapters 1 and 4). -/

namespace Sys2Proof.Machine

@[simp] theorem writeE_keeps (s : State) (e : Marked) :
    (writeE e s).clock = s.clock ∧ (writeE e s).icu = s.icu ∧ (writeE e s).ttr = s.ttr ∧ (writeE e s).leu = s.leu ∧
    (writeE e s).lac = s.lac ∧ (writeE e s).channels = s.channels ∧ (writeE e s).chc = s.chc ∧
    (writeE e s).rsu = s.rsu ∧ (writeE e s).flm = s.flm ∧ (writeE e s).cfs = s.cfs ∧ (writeE e s).pif = s.pif ∧
    (writeE e s).choice = s.choice ∧ (writeE e s).pending = s.pending := by
  simp only [writeE]
  repeat' split
  all_goals first | done | simp

@[simp] theorem publishE_keeps (s : State) :
    (publishE s).clock = s.clock ∧ (publishE s).icu = s.icu ∧ (publishE s).lac = s.lac ∧ (publishE s).cfs = s.cfs ∧
    (publishE s).pif = s.pif ∧ (publishE s).choice = s.choice ∧ (publishE s).pending = s.pending := by
  simp only [publishE]
  repeat' split
  all_goals first | done | simp

@[simp] theorem toPassthroughs_keeps (s : State) (l : List Channel) :
    (l.foldl (fun s c => toPassthrough c s) s).clock = s.clock ∧
    (l.foldl (fun s c => toPassthrough c s) s).icu = s.icu ∧
    (l.foldl (fun s c => toPassthrough c s) s).leu = s.leu ∧
    (l.foldl (fun s c => toPassthrough c s) s).lac = s.lac ∧
    (l.foldl (fun s c => toPassthrough c s) s).dar = s.dar ∧
    (l.foldl (fun s c => toPassthrough c s) s).rsu = s.rsu ∧
    (l.foldl (fun s c => toPassthrough c s) s).cfs = s.cfs ∧
    (l.foldl (fun s c => toPassthrough c s) s).pif = s.pif ∧
    (l.foldl (fun s c => toPassthrough c s) s).choice = s.choice ∧
    (l.foldl (fun s c => toPassthrough c s) s).pending = s.pending :=
  ⟨foldl_keeps (·.clock) _ (fun s x => by simp) _ s, foldl_keeps (·.icu) _ (fun s x => by simp) _ s, foldl_keeps (·.leu) _ (fun s x => by simp) _ s, foldl_keeps (·.lac) _ (fun s x => by simp) _ s, foldl_keeps (·.dar) _ (fun s x => by simp) _ s, foldl_keeps (·.rsu) _ (fun s x => by simp) _ s, foldl_keeps (·.cfs) _ (fun s x => by simp) _ s, foldl_keeps (·.pif) _ (fun s x => by simp) _ s, foldl_keeps (·.choice) _ (fun s x => by simp) _ s, foldl_keeps (·.pending) _ (fun s x => by simp) _ s⟩

@[simp] theorem departures_keeps (s : State) (l : List Channel) :
    (l.foldl judgeDeparture s).clock = s.clock ∧
    (l.foldl judgeDeparture s).icu = s.icu ∧
    (l.foldl judgeDeparture s).leu = s.leu ∧
    (l.foldl judgeDeparture s).lac = s.lac ∧
    (l.foldl judgeDeparture s).dar = s.dar ∧
    (l.foldl judgeDeparture s).rsu = s.rsu ∧
    (l.foldl judgeDeparture s).cfs = s.cfs ∧
    (l.foldl judgeDeparture s).pif = s.pif ∧
    (l.foldl judgeDeparture s).choice = s.choice ∧
    (l.foldl judgeDeparture s).pending = s.pending :=
  ⟨foldl_keeps (·.clock) _ (fun s x => by simp) _ s, foldl_keeps (·.icu) _ (fun s x => by simp) _ s, foldl_keeps (·.leu) _ (fun s x => by simp) _ s, foldl_keeps (·.lac) _ (fun s x => by simp) _ s, foldl_keeps (·.dar) _ (fun s x => by simp) _ s, foldl_keeps (·.rsu) _ (fun s x => by simp) _ s, foldl_keeps (·.cfs) _ (fun s x => by simp) _ s, foldl_keeps (·.pif) _ (fun s x => by simp) _ s, foldl_keeps (·.choice) _ (fun s x => by simp) _ s, foldl_keeps (·.pending) _ (fun s x => by simp) _ s⟩

@[simp] theorem convergeRequests_keeps (s : State) (l : List Channel) :
    (l.foldl convergeRequest s).clock = s.clock ∧
    (l.foldl convergeRequest s).icu = s.icu ∧
    (l.foldl convergeRequest s).ttr = s.ttr ∧
    (l.foldl convergeRequest s).leu = s.leu ∧
    (l.foldl convergeRequest s).lac = s.lac ∧
    (l.foldl convergeRequest s).dar = s.dar ∧
    (l.foldl convergeRequest s).rsu = s.rsu ∧
    (l.foldl convergeRequest s).flm = s.flm ∧
    (l.foldl convergeRequest s).cfs = s.cfs ∧
    (l.foldl convergeRequest s).pif = s.pif ∧
    (l.foldl convergeRequest s).choice = s.choice ∧
    (l.foldl convergeRequest s).pending = s.pending :=
  ⟨foldl_keeps (·.clock) _ (fun s x => by simp) _ s, foldl_keeps (·.icu) _ (fun s x => by simp) _ s, foldl_keeps (·.ttr) _ (fun s x => by simp) _ s, foldl_keeps (·.leu) _ (fun s x => by simp) _ s, foldl_keeps (·.lac) _ (fun s x => by simp) _ s, foldl_keeps (·.dar) _ (fun s x => by simp) _ s, foldl_keeps (·.rsu) _ (fun s x => by simp) _ s, foldl_keeps (·.flm) _ (fun s x => by simp) _ s, foldl_keeps (·.cfs) _ (fun s x => by simp) _ s, foldl_keeps (·.pif) _ (fun s x => by simp) _ s, foldl_keeps (·.choice) _ (fun s x => by simp) _ s, foldl_keeps (·.pending) _ (fun s x => by simp) _ s⟩

@[simp] theorem modeReaches_keeps (s : State) :
    (modeReaches s).clock = s.clock ∧ (modeReaches s).icu = s.icu ∧ (modeReaches s).leu = s.leu ∧
    (modeReaches s).lac = s.lac ∧ (modeReaches s).dar = s.dar ∧ (modeReaches s).cfs = s.cfs ∧
    (modeReaches s).pif = s.pif ∧ (modeReaches s).choice = s.choice ∧ (modeReaches s).pending = s.pending := by
  simp only [modeReaches]
  repeat' split
  all_goals first | done | simp

@[simp] theorem clearDemandFaults_keeps (s : State) :
    (clearDemandFaults s).clock = s.clock ∧ (clearDemandFaults s).icu = s.icu ∧ (clearDemandFaults s).ttr = s.ttr ∧
    (clearDemandFaults s).leu = s.leu ∧ (clearDemandFaults s).lac = s.lac ∧ (clearDemandFaults s).dar = s.dar ∧
    (clearDemandFaults s).channels = s.channels ∧ (clearDemandFaults s).chc = s.chc ∧
    (clearDemandFaults s).rsu = s.rsu ∧ (clearDemandFaults s).cfs = s.cfs ∧ (clearDemandFaults s).pif = s.pif ∧
    (clearDemandFaults s).pending = s.pending := by
  simp only [clearDemandFaults]
  repeat' split
  all_goals first | done | simp

@[simp] theorem enterMode_keeps (s : State) (m : DemandMode) :
    (enterMode m s).clock = s.clock ∧ (enterMode m s).icu = s.icu ∧ (enterMode m s).lac = s.lac ∧
    (enterMode m s).cfs = s.cfs ∧ (enterMode m s).pif = s.pif ∧ (enterMode m s).pending = s.pending := by
  simp only [enterMode]
  repeat' split
  all_goals first | done | simp

@[simp] theorem writeAgreement_keeps (s : State) :
    (writeAgreement s).clock = s.clock ∧ (writeAgreement s).icu = s.icu ∧ (writeAgreement s).ttr = s.ttr ∧
    (writeAgreement s).leu = s.leu ∧ (writeAgreement s).lac = s.lac ∧ (writeAgreement s).channels = s.channels ∧
    (writeAgreement s).chc = s.chc ∧ (writeAgreement s).rsu = s.rsu ∧ (writeAgreement s).flm = s.flm ∧
    (writeAgreement s).cfs = s.cfs ∧ (writeAgreement s).pif = s.pif ∧ (writeAgreement s).choice = s.choice ∧
    (writeAgreement s).pending = s.pending := by
  simp only [writeAgreement]
  repeat' split
  all_goals first | done | simp

@[simp] theorem judgeResume_keeps (s : State) :
    (judgeResume s).clock = s.clock ∧ (judgeResume s).icu = s.icu ∧ (judgeResume s).ttr = s.ttr ∧
    (judgeResume s).leu = s.leu ∧ (judgeResume s).lac = s.lac ∧ (judgeResume s).channels = s.channels ∧
    (judgeResume s).chc = s.chc ∧ (judgeResume s).rsu = s.rsu ∧ (judgeResume s).flm = s.flm ∧
    (judgeResume s).cfs = s.cfs ∧ (judgeResume s).pif = s.pif ∧ (judgeResume s).choice = s.choice ∧
    (judgeResume s).pending = s.pending := by
  simp only [judgeResume]
  repeat' split
  all_goals first | done | simp

@[simp] theorem judgeMismatch_keeps (s : State) :
    (judgeMismatch s).clock = s.clock ∧ (judgeMismatch s).icu = s.icu ∧ (judgeMismatch s).ttr = s.ttr ∧
    (judgeMismatch s).leu = s.leu ∧ (judgeMismatch s).lac = s.lac ∧ (judgeMismatch s).channels = s.channels ∧
    (judgeMismatch s).chc = s.chc ∧ (judgeMismatch s).rsu = s.rsu ∧ (judgeMismatch s).cfs = s.cfs ∧
    (judgeMismatch s).pif = s.pif ∧ (judgeMismatch s).choice = s.choice ∧
    (judgeMismatch s).pending = s.pending := by
  simp only [judgeMismatch]
  repeat' split
  all_goals first | done | simp

@[simp] theorem judgeAgreement_keeps (s : State) :
    (judgeAgreement s).clock = s.clock ∧ (judgeAgreement s).icu = s.icu ∧ (judgeAgreement s).lac = s.lac ∧
    (judgeAgreement s).cfs = s.cfs ∧ (judgeAgreement s).pif = s.pif ∧ (judgeAgreement s).pending = s.pending := by
  simp only [judgeAgreement]
  repeat' split
  all_goals first | done | simp

@[simp] theorem storeDemand_keeps (s : State) (k : Controller) (v : Int) :
    (storeDemand k v s).clock = s.clock ∧ (storeDemand k v s).icu = s.icu ∧ (storeDemand k v s).ttr = s.ttr ∧
    (storeDemand k v s).leu = s.leu ∧ (storeDemand k v s).lac = s.lac ∧ (storeDemand k v s).channels = s.channels ∧
    (storeDemand k v s).chc = s.chc ∧ (storeDemand k v s).rsu = s.rsu ∧ (storeDemand k v s).flm = s.flm ∧
    (storeDemand k v s).cfs = s.cfs ∧ (storeDemand k v s).pif = s.pif ∧ (storeDemand k v s).choice = s.choice ∧
    (storeDemand k v s).pending = s.pending := by
  simp only [storeDemand]
  repeat' split
  all_goals first | done | simp

@[simp] theorem staleDemand_keeps (s : State) (k : Controller) :
    (staleDemand k s).clock = s.clock ∧ (staleDemand k s).icu = s.icu ∧ (staleDemand k s).lac = s.lac ∧
    (staleDemand k s).cfs = s.cfs ∧ (staleDemand k s).pif = s.pif ∧ (staleDemand k s).pending = s.pending := by
  simp only [staleDemand]
  repeat' split
  all_goals first | done | simp

@[simp] theorem expireHold_keeps (s : State) :
    (expireHold s).clock = s.clock ∧ (expireHold s).icu = s.icu ∧ (expireHold s).lac = s.lac ∧
    (expireHold s).cfs = s.cfs ∧ (expireHold s).pif = s.pif ∧ (expireHold s).pending = s.pending := by
  simp only [expireHold]
  repeat' split
  all_goals first | done | simp

@[simp] theorem resumeElectric_keeps (s : State) :
    (resumeElectric s).clock = s.clock ∧ (resumeElectric s).icu = s.icu ∧ (resumeElectric s).lac = s.lac ∧
    (resumeElectric s).cfs = s.cfs ∧ (resumeElectric s).pif = s.pif ∧ (resumeElectric s).pending = s.pending := by
  simp only [resumeElectric]
  repeat' split
  all_goals first | done | simp

@[simp] theorem demandOnSupplyLow_keeps (s : State) :
    (demandOnSupplyLow s).clock = s.clock ∧ (demandOnSupplyLow s).icu = s.icu ∧ (demandOnSupplyLow s).lac = s.lac ∧
    (demandOnSupplyLow s).cfs = s.cfs ∧ (demandOnSupplyLow s).pif = s.pif ∧
    (demandOnSupplyLow s).pending = s.pending := by
  simp only [demandOnSupplyLow]
  repeat' split
  all_goals first | done | simp

@[simp] theorem recordClear_keeps (s : State) (k : Controller) :
    (recordClear k s).clock = s.clock ∧ (recordClear k s).icu = s.icu ∧ (recordClear k s).lac = s.lac ∧
    (recordClear k s).cfs = s.cfs ∧ (recordClear k s).pif = s.pif ∧ (recordClear k s).pending = s.pending := by
  simp only [recordClear]
  repeat' split
  all_goals first | done | simp

@[simp] theorem demandOnPcl_keeps (s : State) :
    (demandOnPcl s).clock = s.clock ∧ (demandOnPcl s).icu = s.icu ∧ (demandOnPcl s).lac = s.lac ∧
    (demandOnPcl s).cfs = s.cfs ∧ (demandOnPcl s).pif = s.pif ∧ (demandOnPcl s).pending = s.pending := by
  simp only [demandOnPcl]
  repeat' split
  all_goals first | done | simp

@[simp] theorem demandOnPsr_keeps (s : State) :
    (demandOnPsr s).clock = s.clock ∧ (demandOnPsr s).icu = s.icu ∧ (demandOnPsr s).ttr = s.ttr ∧
    (demandOnPsr s).leu = s.leu ∧ (demandOnPsr s).lac = s.lac ∧ (demandOnPsr s).channels = s.channels ∧
    (demandOnPsr s).chc = s.chc ∧ (demandOnPsr s).rsu = s.rsu ∧ (demandOnPsr s).cfs = s.cfs ∧
    (demandOnPsr s).pif = s.pif ∧ (demandOnPsr s).choice = s.choice ∧ (demandOnPsr s).pending = s.pending := by
  simp only [demandOnPsr]
  repeat' split
  all_goals first | done | simp

@[simp] theorem demandOnPortReset_keeps (s : State) (k : Controller) :
    (demandOnPortReset k s).clock = s.clock ∧ (demandOnPortReset k s).icu = s.icu ∧
    (demandOnPortReset k s).lac = s.lac ∧ (demandOnPortReset k s).cfs = s.cfs ∧
    (demandOnPortReset k s).pif = s.pif ∧ (demandOnPortReset k s).pending = s.pending := by
  simp only [demandOnPortReset]
  repeat' split
  all_goals first | done | simp

@[simp] theorem judgeLow_keeps (s : State) :
    (judgeLow s).clock = s.clock ∧ (judgeLow s).ttr = s.ttr ∧ (judgeLow s).leu = s.leu ∧ (judgeLow s).lac = s.lac ∧
    (judgeLow s).dar = s.dar ∧ (judgeLow s).channels = s.channels ∧ (judgeLow s).chc = s.chc ∧
    (judgeLow s).rsu = s.rsu ∧ (judgeLow s).flm = s.flm ∧ (judgeLow s).cfs = s.cfs ∧ (judgeLow s).pif = s.pif ∧
    (judgeLow s).choice = s.choice ∧ (judgeLow s).pending = s.pending := by
  simp only [judgeLow]
  repeat' split
  all_goals first | done | simp

@[simp] theorem judgeClear_keeps (s : State) :
    (judgeClear s).clock = s.clock ∧ (judgeClear s).ttr = s.ttr ∧ (judgeClear s).leu = s.leu ∧
    (judgeClear s).lac = s.lac ∧ (judgeClear s).dar = s.dar ∧ (judgeClear s).channels = s.channels ∧
    (judgeClear s).chc = s.chc ∧ (judgeClear s).rsu = s.rsu ∧ (judgeClear s).flm = s.flm ∧
    (judgeClear s).cfs = s.cfs ∧ (judgeClear s).pif = s.pif ∧ (judgeClear s).choice = s.choice ∧
    (judgeClear s).pending = s.pending := by
  simp only [judgeClear]
  repeat' split
  all_goals first | done | simp

@[simp] theorem judgeSupply_keeps (s : State) :
    (judgeSupply s).clock = s.clock ∧ (judgeSupply s).ttr = s.ttr ∧ (judgeSupply s).leu = s.leu ∧
    (judgeSupply s).lac = s.lac ∧ (judgeSupply s).dar = s.dar ∧ (judgeSupply s).channels = s.channels ∧
    (judgeSupply s).chc = s.chc ∧ (judgeSupply s).rsu = s.rsu ∧ (judgeSupply s).flm = s.flm ∧
    (judgeSupply s).cfs = s.cfs ∧ (judgeSupply s).pif = s.pif ∧ (judgeSupply s).choice = s.choice ∧
    (judgeSupply s).pending = s.pending := by
  simp only [judgeSupply]
  repeat' split
  all_goals first | done | simp

@[simp] theorem raiseSupplyLow_keeps (s : State) :
    (raiseSupplyLow s).clock = s.clock ∧ (raiseSupplyLow s).lac = s.lac ∧ (raiseSupplyLow s).cfs = s.cfs ∧
    (raiseSupplyLow s).pif = s.pif ∧ (raiseSupplyLow s).pending = s.pending := by
  simp only [raiseSupplyLow]
  repeat' split
  all_goals first | done | simp

@[simp] theorem clearSupplyLow_keeps (s : State) :
    (clearSupplyLow s).clock = s.clock ∧ (clearSupplyLow s).ttr = s.ttr ∧ (clearSupplyLow s).leu = s.leu ∧
    (clearSupplyLow s).lac = s.lac ∧ (clearSupplyLow s).dar = s.dar ∧ (clearSupplyLow s).channels = s.channels ∧
    (clearSupplyLow s).chc = s.chc ∧ (clearSupplyLow s).rsu = s.rsu ∧ (clearSupplyLow s).cfs = s.cfs ∧
    (clearSupplyLow s).pif = s.pif ∧ (clearSupplyLow s).choice = s.choice ∧
    (clearSupplyLow s).pending = s.pending := by
  simp only [clearSupplyLow]
  repeat' split
  all_goals first | done | simp

@[simp] theorem publish_keeps (s : State) (i : InputId) (q : Marked) (a b : Bool) :
    (publish i q a b s).clock = s.clock ∧ (publish i q a b s).cfs = s.cfs ∧ (publish i q a b s).pif = s.pif ∧
    (publish i q a b s).pending = s.pending := by
  simp only [publish]
  repeat' split
  all_goals first | done | simp

@[simp] theorem sampleArrives_keeps (s : State) (i : InputId) (x : Int) (o : Bool) :
    (sampleArrives i x o s).clock = s.clock ∧ (sampleArrives i x o s).cfs = s.cfs ∧
    (sampleArrives i x o s).pif = s.pif ∧ (sampleArrives i x o s).pending = s.pending := by
  simp only [sampleArrives]
  repeat' split
  all_goals first | done | simp

@[simp] theorem inputFails_keeps (s : State) (i : InputId) :
    (inputFails i s).clock = s.clock ∧ (inputFails i s).cfs = s.cfs ∧ (inputFails i s).pif = s.pif ∧
    (inputFails i s).pending = s.pending := by
  simp only [inputFails]
  repeat' split
  all_goals first | done | simp

@[simp] theorem evaluateWheel_keeps (s : State) (w : WheelEnd) :
    (evaluateWheel s w).clock = s.clock ∧ (evaluateWheel s w).ttr = s.ttr ∧ (evaluateWheel s w).leu = s.leu ∧
    (evaluateWheel s w).lac = s.lac ∧ (evaluateWheel s w).dar = s.dar ∧ (evaluateWheel s w).channels = s.channels ∧
    (evaluateWheel s w).chc = s.chc ∧ (evaluateWheel s w).rsu = s.rsu ∧ (evaluateWheel s w).flm = s.flm ∧
    (evaluateWheel s w).cfs = s.cfs ∧ (evaluateWheel s w).pif = s.pif ∧ (evaluateWheel s w).choice = s.choice ∧
    (evaluateWheel s w).pending = s.pending := by
  simp only [evaluateWheel]
  repeat' split
  all_goals first | done | simp

@[simp] theorem wheelFails_keeps (s : State) (w : WheelEnd) :
    (wheelFails w s).clock = s.clock ∧ (wheelFails w s).ttr = s.ttr ∧ (wheelFails w s).leu = s.leu ∧
    (wheelFails w s).lac = s.lac ∧ (wheelFails w s).dar = s.dar ∧ (wheelFails w s).channels = s.channels ∧
    (wheelFails w s).chc = s.chc ∧ (wheelFails w s).rsu = s.rsu ∧ (wheelFails w s).cfs = s.cfs ∧
    (wheelFails w s).pif = s.pif ∧ (wheelFails w s).choice = s.choice ∧ (wheelFails w s).pending = s.pending := by
  simp only [wheelFails]
  repeat' split
  all_goals first | done | simp

@[simp] theorem wheelRecovers_keeps (s : State) (w : WheelEnd) :
    (wheelRecovers w s).clock = s.clock ∧ (wheelRecovers w s).ttr = s.ttr ∧ (wheelRecovers w s).leu = s.leu ∧
    (wheelRecovers w s).lac = s.lac ∧ (wheelRecovers w s).dar = s.dar ∧ (wheelRecovers w s).channels = s.channels ∧
    (wheelRecovers w s).chc = s.chc ∧ (wheelRecovers w s).rsu = s.rsu ∧ (wheelRecovers w s).cfs = s.cfs ∧
    (wheelRecovers w s).pif = s.pif ∧ (wheelRecovers w s).choice = s.choice ∧
    (wheelRecovers w s).pending = s.pending := by
  simp only [wheelRecovers]
  repeat' split
  all_goals first | done | simp

end Sys2Proof.Machine
end

