-- ==== Sys2Proof/Laws/FramesStore.lean ====
section
/-! SUPPORT. The parts of the state that the store, the tyre telegram receiver and the commits leave as they are
(chapters 2 and 9). -/

namespace Sys2Proof.Machine

@[simp] theorem beginWrite_keeps (s : State) :
    (beginWrite s).clock = s.clock ∧ (beginWrite s).icu = s.icu ∧ (beginWrite s).ttr = s.ttr ∧
    (beginWrite s).leu = s.leu ∧ (beginWrite s).lac = s.lac ∧ (beginWrite s).dar = s.dar ∧
    (beginWrite s).channels = s.channels ∧ (beginWrite s).chc = s.chc ∧ (beginWrite s).rsu = s.rsu ∧
    (beginWrite s).flm = s.flm ∧ (beginWrite s).pif = s.pif ∧ (beginWrite s).choice = s.choice ∧
    (beginWrite s).pending = s.pending := by
  simp only [beginWrite]
  repeat' split
  all_goals first | done | simp

@[simp] theorem setDirty_keeps (s : State) (x : Section) :
    (setDirty x s).clock = s.clock ∧ (setDirty x s).icu = s.icu ∧ (setDirty x s).ttr = s.ttr ∧
    (setDirty x s).leu = s.leu ∧ (setDirty x s).lac = s.lac ∧ (setDirty x s).dar = s.dar ∧
    (setDirty x s).channels = s.channels ∧ (setDirty x s).chc = s.chc ∧ (setDirty x s).rsu = s.rsu ∧
    (setDirty x s).flm = s.flm ∧ (setDirty x s).pif = s.pif ∧ (setDirty x s).choice = s.choice ∧
    (setDirty x s).pending = s.pending := by
  simp only [setDirty]
  refine ⟨foldl_keeps (·.clock) _ (fun s x => ?_) _ s, foldl_keeps (·.icu) _ (fun s x => ?_) _ s, foldl_keeps (·.ttr) _ (fun s x => ?_) _ s, foldl_keeps (·.leu) _ (fun s x => ?_) _ s, foldl_keeps (·.lac) _ (fun s x => ?_) _ s, foldl_keeps (·.dar) _ (fun s x => ?_) _ s, foldl_keeps (·.channels) _ (fun s x => ?_) _ s, foldl_keeps (·.chc) _ (fun s x => ?_) _ s, foldl_keeps (·.rsu) _ (fun s x => ?_) _ s, foldl_keeps (·.flm) _ (fun s x => ?_) _ s, foldl_keeps (·.pif) _ (fun s x => ?_) _ s, foldl_keeps (·.choice) _ (fun s x => ?_) _ s, foldl_keeps (·.pending) _ (fun s x => ?_) _ s⟩
  all_goals first | (split <;> simp; done) | (dsimp only; split <;> simp; done) | simp

@[simp] theorem markDirty_keeps (s : State) (x : Section) :
    (markDirty x s).clock = s.clock ∧ (markDirty x s).icu = s.icu ∧ (markDirty x s).ttr = s.ttr ∧
    (markDirty x s).leu = s.leu ∧ (markDirty x s).lac = s.lac ∧ (markDirty x s).dar = s.dar ∧
    (markDirty x s).channels = s.channels ∧ (markDirty x s).chc = s.chc ∧ (markDirty x s).rsu = s.rsu ∧
    (markDirty x s).flm = s.flm ∧ (markDirty x s).pif = s.pif ∧ (markDirty x s).choice = s.choice ∧
    (markDirty x s).pending = s.pending := by
  simp only [markDirty]
  repeat' split
  all_goals first | done | simp

@[simp] theorem endWrite_keeps (s : State) (w : WriteRun) (b : Bool) :
    (endWrite w b s).clock = s.clock ∧ (endWrite w b s).icu = s.icu ∧ (endWrite w b s).ttr = s.ttr ∧
    (endWrite w b s).leu = s.leu ∧ (endWrite w b s).lac = s.lac ∧ (endWrite w b s).dar = s.dar ∧
    (endWrite w b s).channels = s.channels ∧ (endWrite w b s).chc = s.chc ∧ (endWrite w b s).rsu = s.rsu ∧
    (endWrite w b s).pif = s.pif ∧ (endWrite w b s).choice = s.choice ∧ (endWrite w b s).pending = s.pending := by
  simp only [endWrite]
  repeat' split
  all_goals first | done | simp

@[simp] theorem flatFault_keeps (s : State) (w : WheelEnd) (a b : TyreCond) :
    (flatFault w a b s).clock = s.clock ∧ (flatFault w a b s).icu = s.icu ∧ (flatFault w a b s).ttr = s.ttr ∧
    (flatFault w a b s).leu = s.leu ∧ (flatFault w a b s).lac = s.lac ∧ (flatFault w a b s).dar = s.dar ∧
    (flatFault w a b s).channels = s.channels ∧ (flatFault w a b s).chc = s.chc ∧ (flatFault w a b s).rsu = s.rsu ∧
    (flatFault w a b s).cfs = s.cfs ∧ (flatFault w a b s).pif = s.pif ∧ (flatFault w a b s).choice = s.choice ∧
    (flatFault w a b s).pending = s.pending := by
  simp only [flatFault]
  repeat' split
  all_goals first | done | simp

@[simp] theorem judgeWheel_keeps (s : State) (w : WheelEnd) :
    (judgeWheel s w).clock = s.clock ∧ (judgeWheel s w).icu = s.icu ∧ (judgeWheel s w).leu = s.leu ∧
    (judgeWheel s w).lac = s.lac ∧ (judgeWheel s w).dar = s.dar ∧ (judgeWheel s w).cfs = s.cfs ∧
    (judgeWheel s w).pif = s.pif ∧ (judgeWheel s w).choice = s.choice ∧ (judgeWheel s w).pending = s.pending := by
  simp only [judgeWheel]
  repeat' split
  all_goals first | done | simp

@[simp] theorem writeTyre_keeps (s : State) (y : Tyre) (r : TyreRec) :
    (writeTyre y r s).clock = s.clock ∧ (writeTyre y r s).icu = s.icu ∧ (writeTyre y r s).leu = s.leu ∧
    (writeTyre y r s).lac = s.lac ∧ (writeTyre y r s).dar = s.dar ∧ (writeTyre y r s).cfs = s.cfs ∧
    (writeTyre y r s).pif = s.pif ∧ (writeTyre y r s).choice = s.choice ∧
    (writeTyre y r s).pending = s.pending := by
  simp only [writeTyre]
  repeat' split
  all_goals first | done | simp

@[simp] theorem serve_keeps (s : State) (y : Tyre) (g : Telegram) :
    (serve y g s).clock = s.clock ∧ (serve y g s).icu = s.icu ∧ (serve y g s).leu = s.leu ∧
    (serve y g s).lac = s.lac ∧ (serve y g s).dar = s.dar ∧ (serve y g s).cfs = s.cfs ∧ (serve y g s).pif = s.pif ∧
    (serve y g s).choice = s.choice ∧ (serve y g s).pending = s.pending := by
  simp only [serve]
  repeat' split
  all_goals first | done | simp

@[simp] theorem endLearn_keeps (s : State) (o : LearnOutcome) (y : Tyre) (d : Option (BitVec 32)) (t : Stamp) :
    (endLearn o y d t s).clock = s.clock ∧ (endLearn o y d t s).icu = s.icu ∧ (endLearn o y d t s).leu = s.leu ∧
    (endLearn o y d t s).lac = s.lac ∧ (endLearn o y d t s).dar = s.dar ∧
    (endLearn o y d t s).channels = s.channels ∧ (endLearn o y d t s).chc = s.chc ∧
    (endLearn o y d t s).rsu = s.rsu ∧ (endLearn o y d t s).flm = s.flm ∧ (endLearn o y d t s).cfs = s.cfs ∧
    (endLearn o y d t s).pif = s.pif ∧ (endLearn o y d t s).choice = s.choice ∧
    (endLearn o y d t s).pending = s.pending := by
  simp only [endLearn]
  repeat' split
  all_goals first | done | simp

@[simp] theorem cancelLearn_keeps (s : State) (f : LearnSlot → Bool) :
    (cancelLearn f s).clock = s.clock ∧ (cancelLearn f s).icu = s.icu ∧ (cancelLearn f s).leu = s.leu ∧
    (cancelLearn f s).lac = s.lac ∧ (cancelLearn f s).dar = s.dar ∧ (cancelLearn f s).channels = s.channels ∧
    (cancelLearn f s).chc = s.chc ∧ (cancelLearn f s).rsu = s.rsu ∧ (cancelLearn f s).flm = s.flm ∧
    (cancelLearn f s).cfs = s.cfs ∧ (cancelLearn f s).pif = s.pif ∧ (cancelLearn f s).choice = s.choice ∧
    (cancelLearn f s).pending = s.pending := by
  simp only [cancelLearn]
  repeat' split
  all_goals first | done | simp

@[simp] theorem failLearn_keeps (s : State) :
    (failLearn s).clock = s.clock ∧ (failLearn s).icu = s.icu ∧ (failLearn s).leu = s.leu ∧
    (failLearn s).lac = s.lac ∧ (failLearn s).dar = s.dar ∧ (failLearn s).channels = s.channels ∧
    (failLearn s).chc = s.chc ∧ (failLearn s).rsu = s.rsu ∧ (failLearn s).flm = s.flm ∧ (failLearn s).cfs = s.cfs ∧
    (failLearn s).pif = s.pif ∧ (failLearn s).choice = s.choice ∧ (failLearn s).pending = s.pending := by
  simp only [failLearn]
  repeat' split
  all_goals first | done | simp

@[simp] theorem bindSensor_keeps (s : State) (x : LearnSlot) (g : Telegram) :
    (bindSensor x g s).clock = s.clock ∧ (bindSensor x g s).icu = s.icu ∧ (bindSensor x g s).leu = s.leu ∧
    (bindSensor x g s).lac = s.lac ∧ (bindSensor x g s).dar = s.dar ∧ (bindSensor x g s).pif = s.pif ∧
    (bindSensor x g s).choice = s.choice ∧ (bindSensor x g s).pending = s.pending := by
  simp only [bindSensor]
  repeat' split
  all_goals first | done | simp

@[simp] theorem recordStranger_keeps (s : State) (g : Telegram) :
    (recordStranger g s).clock = s.clock ∧ (recordStranger g s).icu = s.icu ∧ (recordStranger g s).leu = s.leu ∧
    (recordStranger g s).lac = s.lac ∧ (recordStranger g s).dar = s.dar ∧
    (recordStranger g s).channels = s.channels ∧ (recordStranger g s).chc = s.chc ∧
    (recordStranger g s).rsu = s.rsu ∧ (recordStranger g s).flm = s.flm ∧ (recordStranger g s).cfs = s.cfs ∧
    (recordStranger g s).pif = s.pif ∧ (recordStranger g s).choice = s.choice ∧
    (recordStranger g s).pending = s.pending := by
  simp only [recordStranger]
  repeat' split
  all_goals first | done | simp

@[simp] theorem dispatch_keeps (s : State) (g : Telegram) :
    (dispatch g s).clock = s.clock ∧ (dispatch g s).icu = s.icu ∧ (dispatch g s).leu = s.leu ∧
    (dispatch g s).lac = s.lac ∧ (dispatch g s).dar = s.dar ∧ (dispatch g s).pif = s.pif ∧
    (dispatch g s).choice = s.choice ∧ (dispatch g s).pending = s.pending := by
  simp only [dispatch]
  repeat' split
  all_goals first | done | simp

@[simp] theorem unbindTyre_keeps (s : State) (y : Tyre) :
    (unbindTyre y s).clock = s.clock ∧ (unbindTyre y s).icu = s.icu ∧ (unbindTyre y s).leu = s.leu ∧
    (unbindTyre y s).lac = s.lac ∧ (unbindTyre y s).dar = s.dar ∧ (unbindTyre y s).pif = s.pif ∧
    (unbindTyre y s).choice = s.choice ∧ (unbindTyre y s).pending = s.pending := by
  simp only [unbindTyre]
  repeat' split
  all_goals first | done | simp

@[simp] theorem tyreMissing_keeps (s : State) (y : Tyre) :
    (tyreMissing y s).clock = s.clock ∧ (tyreMissing y s).icu = s.icu ∧ (tyreMissing y s).leu = s.leu ∧
    (tyreMissing y s).lac = s.lac ∧ (tyreMissing y s).dar = s.dar ∧ (tyreMissing y s).cfs = s.cfs ∧
    (tyreMissing y s).pif = s.pif ∧ (tyreMissing y s).choice = s.choice ∧
    (tyreMissing y s).pending = s.pending := by
  simp only [tyreMissing]
  repeat' split
  all_goals first | done | simp

@[simp] theorem telegram_keeps (s : State) (l : List Byte) (b : Byte) :
    (telegram l b s).clock = s.clock ∧ (telegram l b s).icu = s.icu ∧ (telegram l b s).leu = s.leu ∧
    (telegram l b s).lac = s.lac ∧ (telegram l b s).dar = s.dar ∧ (telegram l b s).pif = s.pif ∧
    (telegram l b s).choice = s.choice ∧ (telegram l b s).pending = s.pending := by
  simp only [telegram]
  repeat' split
  all_goals first | done | simp

@[simp] theorem frameCompletes_keeps (s : State) (l : List Byte) :
    (frameCompletes l s).clock = s.clock ∧ (frameCompletes l s).icu = s.icu ∧ (frameCompletes l s).leu = s.leu ∧
    (frameCompletes l s).lac = s.lac ∧ (frameCompletes l s).dar = s.dar ∧ (frameCompletes l s).pif = s.pif ∧
    (frameCompletes l s).choice = s.choice ∧ (frameCompletes l s).pending = s.pending := by
  simp only [frameCompletes]
  repeat' split
  all_goals first | done | simp

@[simp] theorem lineByte_keeps (s : State) (b : Byte) :
    (lineByte b s).clock = s.clock ∧ (lineByte b s).icu = s.icu ∧ (lineByte b s).leu = s.leu ∧
    (lineByte b s).lac = s.lac ∧ (lineByte b s).dar = s.dar ∧ (lineByte b s).pif = s.pif ∧
    (lineByte b s).choice = s.choice ∧ (lineByte b s).pending = s.pending := by
  simp only [lineByte]
  repeat' split
  all_goals first | done | simp

@[simp] theorem abandonFrame_keeps (s : State) :
    (abandonFrame s).clock = s.clock ∧ (abandonFrame s).icu = s.icu ∧ (abandonFrame s).leu = s.leu ∧
    (abandonFrame s).lac = s.lac ∧ (abandonFrame s).dar = s.dar ∧ (abandonFrame s).channels = s.channels ∧
    (abandonFrame s).chc = s.chc ∧ (abandonFrame s).rsu = s.rsu ∧ (abandonFrame s).flm = s.flm ∧
    (abandonFrame s).cfs = s.cfs ∧ (abandonFrame s).pif = s.pif ∧ (abandonFrame s).choice = s.choice ∧
    (abandonFrame s).pending = s.pending := by
  simp only [abandonFrame]
  repeat' split
  all_goals first | done | simp

@[simp] theorem dragReached_keeps (s : State) (w : WheelEnd) :
    (dragReached w s).clock = s.clock ∧ (dragReached w s).icu = s.icu ∧ (dragReached w s).leu = s.leu ∧
    (dragReached w s).lac = s.lac ∧ (dragReached w s).dar = s.dar ∧ (dragReached w s).channels = s.channels ∧
    (dragReached w s).chc = s.chc ∧ (dragReached w s).rsu = s.rsu ∧ (dragReached w s).cfs = s.cfs ∧
    (dragReached w s).pif = s.pif ∧ (dragReached w s).choice = s.choice ∧
    (dragReached w s).pending = s.pending := by
  simp only [dragReached]
  repeat' split
  all_goals first | done | simp

@[simp] theorem ackTyres_keeps (s : State) (m : Nat) (f : TyreRec → TyreRec) :
    (ackTyres m f s).clock = s.clock ∧ (ackTyres m f s).icu = s.icu ∧ (ackTyres m f s).leu = s.leu ∧
    (ackTyres m f s).lac = s.lac ∧ (ackTyres m f s).dar = s.dar ∧ (ackTyres m f s).channels = s.channels ∧
    (ackTyres m f s).chc = s.chc ∧ (ackTyres m f s).rsu = s.rsu ∧ (ackTyres m f s).flm = s.flm ∧
    (ackTyres m f s).cfs = s.cfs ∧ (ackTyres m f s).pif = s.pif ∧ (ackTyres m f s).choice = s.choice ∧
    (ackTyres m f s).pending = s.pending := by
  simp only [ackTyres, watch_clock, watch_icu, watch_leu, watch_lac, watch_dar, watch_channels, watch_chc, watch_rsu, watch_flm, watch_cfs, watch_pif, watch_choice, watch_pending]
  refine ⟨foldl_keeps (·.clock) _ (fun s x => ?_) _ s, foldl_keeps (·.icu) _ (fun s x => ?_) _ s, foldl_keeps (·.leu) _ (fun s x => ?_) _ s, foldl_keeps (·.lac) _ (fun s x => ?_) _ s, foldl_keeps (·.dar) _ (fun s x => ?_) _ s, foldl_keeps (·.channels) _ (fun s x => ?_) _ s, foldl_keeps (·.chc) _ (fun s x => ?_) _ s, foldl_keeps (·.rsu) _ (fun s x => ?_) _ s, foldl_keeps (·.flm) _ (fun s x => ?_) _ s, foldl_keeps (·.cfs) _ (fun s x => ?_) _ s, foldl_keeps (·.pif) _ (fun s x => ?_) _ s, foldl_keeps (·.choice) _ (fun s x => ?_) _ s, foldl_keeps (·.pending) _ (fun s x => ?_) _ s⟩
  all_goals first | (split <;> simp; done) | (dsimp only; split <;> simp; done) | simp

@[simp] theorem takeFilter_keeps (s : State) (p : BrakeSet) (i : InputId) :
    (takeFilter p s i).clock = s.clock ∧ (takeFilter p s i).cfs = s.cfs ∧ (takeFilter p s i).pif = s.pif ∧
    (takeFilter p s i).pending = s.pending := by
  simp only [takeFilter]
  repeat' split
  all_goals first | done | simp

@[simp] theorem moveInputHold_keeps (s : State) (p : BrakeSet) (i : InputId) :
    (moveInputHold p s i).clock = s.clock ∧ (moveInputHold p s i).cfs = s.cfs ∧ (moveInputHold p s i).pif = s.pif ∧
    (moveInputHold p s i).pending = s.pending := by
  simp only [moveInputHold]
  repeat' split
  all_goals first | done | simp

@[simp] theorem moveWheelHold_keeps (s : State) (p : BrakeSet) (w : WheelEnd) :
    (moveWheelHold p s w).clock = s.clock ∧ (moveWheelHold p s w).ttr = s.ttr ∧ (moveWheelHold p s w).leu = s.leu ∧
    (moveWheelHold p s w).lac = s.lac ∧ (moveWheelHold p s w).dar = s.dar ∧
    (moveWheelHold p s w).channels = s.channels ∧ (moveWheelHold p s w).chc = s.chc ∧
    (moveWheelHold p s w).rsu = s.rsu ∧ (moveWheelHold p s w).cfs = s.cfs ∧ (moveWheelHold p s w).pif = s.pif ∧
    (moveWheelHold p s w).choice = s.choice ∧ (moveWheelHold p s w).pending = s.pending := by
  simp only [moveWheelHold]
  repeat' split
  all_goals first | done | simp

@[simp] theorem expireHoldOf_keeps (s : State) (x : HoldSubject) :
    (expireHoldOf s x).clock = s.clock ∧ (expireHoldOf s x).cfs = s.cfs ∧ (expireHoldOf s x).pif = s.pif ∧
    (expireHoldOf s x).pending = s.pending := by
  cases x <;> simp only [expireHoldOf] <;> split <;> simp

/-- The moves of R11 leave the clock, the store, the ports and the waiting commands. -/
@[simp] theorem moveHolds_keeps (s : State) (p : BrakeSet) :
    (moveHolds p s).clock = s.clock ∧ (moveHolds p s).cfs = s.cfs ∧ (moveHolds p s).pif = s.pif ∧
    (moveHolds p s).pending = s.pending := by
  have moved {α : Type} (g : State → α) (hi : ∀ s i, g (moveInputHold p s i) = g s)
      (hw : ∀ s w, g (moveWheelHold p s w) = g s) :
      g (WheelEnd.list.foldl (moveWheelHold p) (InputId.list.foldl (moveInputHold p) s)) = g s :=
    (foldl_keeps g _ hw _ _).trans (foldl_keeps g _ hi _ s)
  simp only [moveHolds]
  split
  · simp
  · exact ⟨moved (·.clock) (by simp) (by simp), moved (·.cfs) (by simp) (by simp), moved (·.pif) (by simp) (by simp),
      moved (·.pending) (by simp) (by simp)⟩

@[simp] theorem takeRelease_keeps (s : State) :
    (takeRelease s).clock = s.clock ∧ (takeRelease s).icu = s.icu ∧ (takeRelease s).lac = s.lac ∧
    (takeRelease s).dar = s.dar ∧ (takeRelease s).cfs = s.cfs ∧ (takeRelease s).pif = s.pif ∧
    (takeRelease s).choice = s.choice ∧ (takeRelease s).pending = s.pending := by
  simp only [takeRelease]
  repeat' split
  all_goals first | done | simp

@[simp] theorem trackingFails_keeps (s : State) (c : Channel) :
    (trackingFails c s).clock = s.clock ∧ (trackingFails c s).icu = s.icu ∧ (trackingFails c s).leu = s.leu ∧
    (trackingFails c s).lac = s.lac ∧ (trackingFails c s).dar = s.dar ∧ (trackingFails c s).rsu = s.rsu ∧
    (trackingFails c s).cfs = s.cfs ∧ (trackingFails c s).pif = s.pif ∧ (trackingFails c s).choice = s.choice ∧
    (trackingFails c s).pending = s.pending := by
  simp only [trackingFails]
  repeat' split
  all_goals first | done | simp

@[simp] theorem takeTrackTime_keeps (s : State) (c : Channel) :
    (takeTrackTime s c).clock = s.clock ∧ (takeTrackTime s c).icu = s.icu ∧ (takeTrackTime s c).leu = s.leu ∧
    (takeTrackTime s c).lac = s.lac ∧ (takeTrackTime s c).dar = s.dar ∧ (takeTrackTime s c).rsu = s.rsu ∧
    (takeTrackTime s c).cfs = s.cfs ∧ (takeTrackTime s c).pif = s.pif ∧ (takeTrackTime s c).choice = s.choice ∧
    (takeTrackTime s c).pending = s.pending := by
  simp only [takeTrackTime]
  repeat' split
  all_goals first | done | simp

@[simp] theorem takeRollEnable_keeps (s : State) :
    (takeRollEnable s).clock = s.clock ∧ (takeRollEnable s).icu = s.icu ∧ (takeRollEnable s).leu = s.leu ∧
    (takeRollEnable s).lac = s.lac ∧ (takeRollEnable s).dar = s.dar ∧ (takeRollEnable s).cfs = s.cfs ∧
    (takeRollEnable s).pif = s.pif ∧ (takeRollEnable s).choice = s.choice ∧
    (takeRollEnable s).pending = s.pending := by
  simp only [takeRollEnable]
  repeat' split
  all_goals first | done | simp

@[simp] theorem takeFilters_keeps (s : State) (l : List InputId) (p : BrakeSet) :
    (l.foldl (takeFilter p) s).clock = s.clock ∧
    (l.foldl (takeFilter p) s).cfs = s.cfs ∧
    (l.foldl (takeFilter p) s).pif = s.pif ∧
    (l.foldl (takeFilter p) s).pending = s.pending :=
  ⟨foldl_keeps (·.clock) _ (fun s x => by simp) _ s, foldl_keeps (·.cfs) _ (fun s x => by simp) _ s, foldl_keeps (·.pif) _ (fun s x => by simp) _ s, foldl_keeps (·.pending) _ (fun s x => by simp) _ s⟩

@[simp] theorem judgeWheels_keeps (s : State) (l : List WheelEnd) :
    (l.foldl judgeWheel s).clock = s.clock ∧
    (l.foldl judgeWheel s).icu = s.icu ∧
    (l.foldl judgeWheel s).leu = s.leu ∧
    (l.foldl judgeWheel s).lac = s.lac ∧
    (l.foldl judgeWheel s).dar = s.dar ∧
    (l.foldl judgeWheel s).cfs = s.cfs ∧
    (l.foldl judgeWheel s).pif = s.pif ∧
    (l.foldl judgeWheel s).choice = s.choice ∧
    (l.foldl judgeWheel s).pending = s.pending :=
  ⟨foldl_keeps (·.clock) _ (fun s x => by simp) _ s, foldl_keeps (·.icu) _ (fun s x => by simp) _ s, foldl_keeps (·.leu) _ (fun s x => by simp) _ s, foldl_keeps (·.lac) _ (fun s x => by simp) _ s, foldl_keeps (·.dar) _ (fun s x => by simp) _ s, foldl_keeps (·.cfs) _ (fun s x => by simp) _ s, foldl_keeps (·.pif) _ (fun s x => by simp) _ s, foldl_keeps (·.choice) _ (fun s x => by simp) _ s, foldl_keeps (·.pending) _ (fun s x => by simp) _ s⟩

@[simp] theorem takeSubject_keeps (s : State) (x : CommitSubject) :
    (takeSubject s x).clock = s.clock ∧ (takeSubject s x).cfs = s.cfs ∧ (takeSubject s x).pif = s.pif ∧
    (takeSubject s x).pending = s.pending := by
  cases x <;> simp [takeSubject]

/-- What comes due at a commit leaves the clock, the store, the ports and the waiting commands. -/
@[simp] theorem takeDue_keeps (s : State) (p : BrakeSet) :
    (takeDue p s).clock = s.clock ∧ (takeDue p s).cfs = s.cfs ∧ (takeDue p s).pif = s.pif ∧
    (takeDue p s).pending = s.pending := by
  have taken {α : Type} (g : State → α) (h : ∀ s x, g (takeSubject s x) = g s) (s : State) (l : List CommitSubject) :
      g (l.foldl takeSubject s) = g s := foldl_keeps g _ h l s
  simp [takeDue, taken (·.clock), taken (·.cfs), taken (·.pif), taken (·.pending)]

/-- All that comes due at a commit is taken, each once, in some order. -/
theorem takeDue_order (s : State) (p : BrakeSet) :
    ∃ l : List CommitSubject, l.Perm (s.commitDue p) ∧
      takeDue p s = l.foldl takeSubject (s.ordered (s.commitDue p)).2 :=
  ⟨_, ordered_perm _ _, rfl⟩

/-- Nothing comes due at a commit that changes none of the three parameters. -/
theorem takeDue_none (s : State) (p : BrakeSet) (hh : p.inHoldTime = s.brake.inHoldTime)
    (hr : p.rollEnable = s.brake.rollEnable) (ht : p.trackTime = s.brake.trackTime) : takeDue p s = s := by
  simp [takeDue, State.commitDue, hh, hr, ht, State.ordered]

@[simp] theorem takeBrakeSet_keeps (s : State) (p : BrakeSet) :
    (takeBrakeSet p s).clock = s.clock ∧ (takeBrakeSet p s).cfs = s.cfs ∧ (takeBrakeSet p s).pif = s.pif ∧
    (takeBrakeSet p s).pending = s.pending := by
  simp only [takeBrakeSet]
  repeat' split
  all_goals simp

@[simp] theorem endCommit_keeps (s : State) (o : CommitOutcome) :
    (endCommit o s).clock = s.clock ∧ (endCommit o s).icu = s.icu ∧ (endCommit o s).ttr = s.ttr ∧
    (endCommit o s).leu = s.leu ∧ (endCommit o s).lac = s.lac ∧ (endCommit o s).dar = s.dar ∧
    (endCommit o s).channels = s.channels ∧ (endCommit o s).chc = s.chc ∧ (endCommit o s).rsu = s.rsu ∧
    (endCommit o s).flm = s.flm ∧ (endCommit o s).pif = s.pif ∧ (endCommit o s).choice = s.choice ∧
    (endCommit o s).pending = s.pending := by
  simp only [endCommit]
  repeat' split
  all_goals first | done | simp

@[simp] theorem applyCommit_keeps (s : State) :
    (applyCommit s).clock = s.clock ∧ (applyCommit s).pif = s.pif ∧ (applyCommit s).pending = s.pending := by
  simp only [applyCommit]
  repeat' split
  all_goals first | done | simp

@[simp] theorem cfsJudge_keeps (s : State) :
    (cfsJudge s).clock = s.clock ∧ (cfsJudge s).pif = s.pif ∧ (cfsJudge s).pending = s.pending := by
  simp only [cfsJudge]
  repeat' split
  all_goals first | done | simp

@[simp] theorem settle_keeps (s : State) :
    (settle s).clock = s.clock ∧ (settle s).pif = s.pif ∧ (settle s).pending = s.pending := by
  simp only [settle]
  repeat' split
  all_goals first | done | simp

@[simp] theorem takeMissing_keeps (s : State) (y : Tyre) :
    (takeMissing s y).clock = s.clock ∧ (takeMissing s y).icu = s.icu ∧ (takeMissing s y).leu = s.leu ∧
    (takeMissing s y).lac = s.lac ∧ (takeMissing s y).dar = s.dar ∧ (takeMissing s y).cfs = s.cfs ∧
    (takeMissing s y).pif = s.pif ∧ (takeMissing s y).choice = s.choice ∧
    (takeMissing s y).pending = s.pending := by
  simp only [takeMissing]
  repeat' split
  all_goals first | done | simp

@[simp] theorem takeLearn_keeps (s : State) :
    (takeLearn s).clock = s.clock ∧ (takeLearn s).icu = s.icu ∧ (takeLearn s).leu = s.leu ∧
    (takeLearn s).lac = s.lac ∧ (takeLearn s).dar = s.dar ∧ (takeLearn s).channels = s.channels ∧
    (takeLearn s).chc = s.chc ∧ (takeLearn s).rsu = s.rsu ∧ (takeLearn s).flm = s.flm ∧ (takeLearn s).cfs = s.cfs ∧
    (takeLearn s).pif = s.pif ∧ (takeLearn s).choice = s.choice ∧ (takeLearn s).pending = s.pending := by
  simp only [takeLearn]
  repeat' split
  all_goals first | done | simp

@[simp] theorem takeMissings_keeps (s : State) (l : List Tyre) :
    (l.foldl takeMissing s).clock = s.clock ∧
    (l.foldl takeMissing s).icu = s.icu ∧
    (l.foldl takeMissing s).leu = s.leu ∧
    (l.foldl takeMissing s).lac = s.lac ∧
    (l.foldl takeMissing s).dar = s.dar ∧
    (l.foldl takeMissing s).cfs = s.cfs ∧
    (l.foldl takeMissing s).pif = s.pif ∧
    (l.foldl takeMissing s).choice = s.choice ∧
    (l.foldl takeMissing s).pending = s.pending :=
  ⟨foldl_keeps (·.clock) _ (fun s x => by simp) _ s, foldl_keeps (·.icu) _ (fun s x => by simp) _ s, foldl_keeps (·.leu) _ (fun s x => by simp) _ s, foldl_keeps (·.lac) _ (fun s x => by simp) _ s, foldl_keeps (·.dar) _ (fun s x => by simp) _ s, foldl_keeps (·.cfs) _ (fun s x => by simp) _ s, foldl_keeps (·.pif) _ (fun s x => by simp) _ s, foldl_keeps (·.choice) _ (fun s x => by simp) _ s, foldl_keeps (·.pending) _ (fun s x => by simp) _ s⟩

@[simp] theorem applyTyre_keeps (s : State) :
    (applyTyre s).clock = s.clock ∧ (applyTyre s).icu = s.icu ∧ (applyTyre s).leu = s.leu ∧
    (applyTyre s).lac = s.lac ∧ (applyTyre s).dar = s.dar ∧ (applyTyre s).pif = s.pif ∧
    (applyTyre s).choice = s.choice ∧ (applyTyre s).pending = s.pending := by
  simp only [applyTyre]
  repeat' split
  all_goals simp

end Sys2Proof.Machine
end

