-- ==== Sys2Proof/Laws/FramesPorts.lean ====
section
/-! SUPPORT. What the ports and the end of an event leave as they are (chapter 10, R165): responses and lines touch the
port interface alone, and the end of an event only the context of a new first fault and the queues. -/

namespace Sys2Proof.Machine

@[simp] theorem respond_keeps (s : State) (p : Port) (r : Response) :
    (respond p r s).clock = s.clock ∧ (respond p r s).icu = s.icu ∧ (respond p r s).ttr = s.ttr ∧
    (respond p r s).leu = s.leu ∧ (respond p r s).lac = s.lac ∧ (respond p r s).dar = s.dar ∧
    (respond p r s).channels = s.channels ∧ (respond p r s).chc = s.chc ∧ (respond p r s).rsu = s.rsu ∧
    (respond p r s).flm = s.flm ∧ (respond p r s).cfs = s.cfs ∧ (respond p r s).choice = s.choice ∧
    (respond p r s).pending = s.pending := by
  simp only [respond]
  repeat' split
  all_goals first | done | simp

@[simp] theorem beginTransaction_keeps (s : State) (k : Controller) :
    (beginTransaction k s).clock = s.clock ∧ (beginTransaction k s).icu = s.icu ∧
    (beginTransaction k s).ttr = s.ttr ∧ (beginTransaction k s).leu = s.leu ∧ (beginTransaction k s).lac = s.lac ∧
    (beginTransaction k s).dar = s.dar ∧ (beginTransaction k s).channels = s.channels ∧
    (beginTransaction k s).chc = s.chc ∧ (beginTransaction k s).rsu = s.rsu ∧ (beginTransaction k s).flm = s.flm ∧
    (beginTransaction k s).cfs = s.cfs ∧ (beginTransaction k s).choice = s.choice ∧
    (beginTransaction k s).pending = s.pending := by
  simp only [beginTransaction]
  repeat' split
  all_goals first | done | simp

@[simp] theorem endTransaction_keeps (s : State) (k : Controller) :
    (endTransaction k s).clock = s.clock ∧ (endTransaction k s).icu = s.icu ∧ (endTransaction k s).ttr = s.ttr ∧
    (endTransaction k s).leu = s.leu ∧ (endTransaction k s).lac = s.lac ∧ (endTransaction k s).dar = s.dar ∧
    (endTransaction k s).channels = s.channels ∧ (endTransaction k s).chc = s.chc ∧
    (endTransaction k s).rsu = s.rsu ∧ (endTransaction k s).flm = s.flm ∧ (endTransaction k s).cfs = s.cfs ∧
    (endTransaction k s).choice = s.choice ∧ (endTransaction k s).pending = s.pending := by
  simp only [endTransaction]
  repeat' split
  all_goals first | done | simp

@[simp] theorem endReception_keeps (s : State) :
    (endReception s).clock = s.clock ∧ (endReception s).icu = s.icu ∧ (endReception s).ttr = s.ttr ∧
    (endReception s).leu = s.leu ∧ (endReception s).lac = s.lac ∧ (endReception s).dar = s.dar ∧
    (endReception s).channels = s.channels ∧ (endReception s).chc = s.chc ∧ (endReception s).rsu = s.rsu ∧
    (endReception s).flm = s.flm ∧ (endReception s).cfs = s.cfs ∧ (endReception s).choice = s.choice ∧
    (endReception s).pending = s.pending := by
  simp only [endReception]
  repeat' split
  all_goals first | done | simp

@[simp] theorem frameEnds_keeps (s : State) (p : Port) :
    (frameEnds p s).clock = s.clock ∧ (frameEnds p s).icu = s.icu ∧ (frameEnds p s).ttr = s.ttr ∧
    (frameEnds p s).leu = s.leu ∧ (frameEnds p s).lac = s.lac ∧ (frameEnds p s).dar = s.dar ∧
    (frameEnds p s).channels = s.channels ∧ (frameEnds p s).chc = s.chc ∧ (frameEnds p s).rsu = s.rsu ∧
    (frameEnds p s).flm = s.flm ∧ (frameEnds p s).cfs = s.cfs ∧ (frameEnds p s).choice = s.choice ∧
    (frameEnds p s).pending = s.pending := by
  simp only [frameEnds]
  repeat' split
  all_goals first | done | simp

@[simp] theorem answerAbandoned_keeps (s : State) :
    (answerAbandoned s).clock = s.clock ∧ (answerAbandoned s).icu = s.icu ∧ (answerAbandoned s).ttr = s.ttr ∧
    (answerAbandoned s).leu = s.leu ∧ (answerAbandoned s).lac = s.lac ∧ (answerAbandoned s).dar = s.dar ∧
    (answerAbandoned s).channels = s.channels ∧ (answerAbandoned s).chc = s.chc ∧ (answerAbandoned s).rsu = s.rsu ∧
    (answerAbandoned s).flm = s.flm ∧ (answerAbandoned s).cfs = s.cfs ∧ (answerAbandoned s).choice = s.choice ∧
    (answerAbandoned s).pending = s.pending := by
  simp only [answerAbandoned]
  repeat' split
  all_goals first | done | simp

@[simp] theorem sendHeld_keeps (s : State) :
    (sendHeld s).clock = s.clock ∧ (sendHeld s).icu = s.icu ∧ (sendHeld s).ttr = s.ttr ∧ (sendHeld s).leu = s.leu ∧
    (sendHeld s).lac = s.lac ∧ (sendHeld s).dar = s.dar ∧ (sendHeld s).channels = s.channels ∧
    (sendHeld s).chc = s.chc ∧ (sendHeld s).rsu = s.rsu ∧ (sendHeld s).flm = s.flm ∧ (sendHeld s).cfs = s.cfs ∧
    (sendHeld s).choice = s.choice ∧ (sendHeld s).pending = s.pending := by
  simp only [sendHeld]
  repeat' split
  all_goals first | done | simp

@[simp] theorem resetPort_keeps (s : State) (p : Port) :
    (resetPort p s).clock = s.clock ∧ (resetPort p s).icu = s.icu ∧ (resetPort p s).ttr = s.ttr ∧
    (resetPort p s).leu = s.leu ∧ (resetPort p s).lac = s.lac ∧ (resetPort p s).dar = s.dar ∧
    (resetPort p s).channels = s.channels ∧ (resetPort p s).chc = s.chc ∧ (resetPort p s).rsu = s.rsu ∧
    (resetPort p s).flm = s.flm ∧ (resetPort p s).cfs = s.cfs ∧ (resetPort p s).choice = s.choice ∧
    (resetPort p s).pending = s.pending := by
  simp only [resetPort]
  repeat' split
  all_goals first | done | simp

@[simp] theorem snapshotExpires_keeps (s : State) :
    (snapshotExpires s).clock = s.clock ∧ (snapshotExpires s).icu = s.icu ∧ (snapshotExpires s).ttr = s.ttr ∧
    (snapshotExpires s).leu = s.leu ∧ (snapshotExpires s).lac = s.lac ∧ (snapshotExpires s).dar = s.dar ∧
    (snapshotExpires s).channels = s.channels ∧ (snapshotExpires s).chc = s.chc ∧ (snapshotExpires s).rsu = s.rsu ∧
    (snapshotExpires s).flm = s.flm ∧ (snapshotExpires s).cfs = s.cfs ∧ (snapshotExpires s).choice = s.choice ∧
    (snapshotExpires s).pending = s.pending := by
  simp only [snapshotExpires]
  repeat' split
  all_goals first | done | simp

@[simp] theorem State_sendEdge_keeps (s : State) (e : Edge) :
    (s.sendEdge e).clock = s.clock ∧ (s.sendEdge e).icu = s.icu ∧ (s.sendEdge e).ttr = s.ttr ∧
    (s.sendEdge e).leu = s.leu ∧ (s.sendEdge e).lac = s.lac ∧ (s.sendEdge e).dar = s.dar ∧
    (s.sendEdge e).channels = s.channels ∧ (s.sendEdge e).chc = s.chc ∧ (s.sendEdge e).rsu = s.rsu ∧
    (s.sendEdge e).flm = s.flm ∧ (s.sendEdge e).cfs = s.cfs ∧ (s.sendEdge e).choice = s.choice ∧
    (s.sendEdge e).pending = s.pending := by
  simp only [State.sendEdge]
  repeat' split
  all_goals first | done | simp

theorem deliver_keeps (s : State) :
    s.deliver.clock = s.clock ∧ s.deliver.icu = s.icu ∧ s.deliver.ttr = s.ttr ∧ s.deliver.leu = s.leu ∧
    s.deliver.lac = s.lac ∧ s.deliver.dar = s.dar ∧ s.deliver.channels = s.channels ∧ s.deliver.chc = s.chc ∧
    s.deliver.rsu = s.rsu ∧ s.deliver.flm = s.flm ∧ s.deliver.cfs = s.cfs ∧ s.deliver.pending = s.pending ∧
    s.deliver.pif = { s.pif with queues := s.deliver.pif.queues } ∧ s.deliver.edges = [] := by
  have h : ∀ l : List Edge, (l.foldl State.sendEdge s).pif =
      { s.pif with queues := (l.foldl State.sendEdge s).pif.queues } := by
    intro l
    induction l generalizing s with
    | nil => rfl
    | cons e l ih => rw [List.foldl_cons, ih]; rfl
  simp only [State.deliver]
  split
  all_goals
    refine ⟨foldl_keeps (·.clock) State.sendEdge (fun s x => rfl) _ s, foldl_keeps (·.icu) State.sendEdge (fun s x => rfl) _ s,
      foldl_keeps (·.ttr) State.sendEdge (fun s x => rfl) _ s, foldl_keeps (·.leu) State.sendEdge (fun s x => rfl) _ s,
      foldl_keeps (·.lac) State.sendEdge (fun s x => rfl) _ s, foldl_keeps (·.dar) State.sendEdge (fun s x => rfl) _ s,
      foldl_keeps (·.channels) State.sendEdge (fun s x => rfl) _ s, foldl_keeps (·.chc) State.sendEdge (fun s x => rfl) _ s,
      foldl_keeps (·.rsu) State.sendEdge (fun s x => rfl) _ s, foldl_keeps (·.flm) State.sendEdge (fun s x => rfl) _ s,
      foldl_keeps (·.cfs) State.sendEdge (fun s x => rfl) _ s, foldl_keeps (·.pending) State.sendEdge (fun s x => rfl) _ s, h _, rfl⟩

theorem settleFirst_keeps (pre s : State) :
    (State.settleFirst pre s).clock = s.clock ∧ (State.settleFirst pre s).icu = s.icu ∧
    (State.settleFirst pre s).ttr = s.ttr ∧ (State.settleFirst pre s).leu = s.leu ∧
    (State.settleFirst pre s).lac = s.lac ∧ (State.settleFirst pre s).dar = s.dar ∧
    (State.settleFirst pre s).channels = s.channels ∧ (State.settleFirst pre s).chc = s.chc ∧
    (State.settleFirst pre s).rsu = s.rsu ∧ (State.settleFirst pre s).cfs = s.cfs ∧
    (State.settleFirst pre s).pif = s.pif ∧ (State.settleFirst pre s).pending = s.pending ∧
    (State.settleFirst pre s).edges = s.edges ∧
    (State.settleFirst pre s).flm = { s.flm with first := (State.settleFirst pre s).flm.first } := by
  simp only [State.settleFirst]
  split
  · split <;> simp
  · simp

/-- The end of an event: the blocks stay, the fault manager but for the context of a first fault, and the
port interface but for the queues. -/
@[simp] theorem finish_keeps (pre s : State) :
    (State.finish pre s).clock = s.clock ∧ (State.finish pre s).icu = s.icu ∧ (State.finish pre s).ttr = s.ttr ∧
    (State.finish pre s).leu = s.leu ∧ (State.finish pre s).lac = s.lac ∧ (State.finish pre s).dar = s.dar ∧
    (State.finish pre s).channels = s.channels ∧ (State.finish pre s).chc = s.chc ∧
    (State.finish pre s).rsu = s.rsu ∧ (State.finish pre s).cfs = s.cfs ∧ (State.finish pre s).pending = s.pending ∧
    (State.finish pre s).edges = [] ∧
    (State.finish pre s).flm.active = s.flm.active ∧ (State.finish pre s).flm.entries = s.flm.entries ∧
    (State.finish pre s).flm.overrun = s.flm.overrun ∧ (State.finish pre s).flm.warnLine = s.flm.warnLine ∧
    (State.finish pre s).flm.severeLine = s.flm.severeLine ∧
    (State.finish pre s).pif.spi = s.pif.spi ∧ (State.finish pre s).pif.uart = s.pif.uart ∧
    (State.finish pre s).pif.interval = s.pif.interval ∧ (State.finish pre s).pif.nextSnapshot = s.pif.nextSnapshot ∧
    (State.finish pre s).pif.snapshot = s.pif.snapshot ∧
    (State.finish pre s).pif.snapshotReady = s.pif.snapshotReady ∧ (State.finish pre s).pif.window = s.pif.window := by
  have h1 := deliver_keeps (State.settleFirst pre s)
  have h2 := settleFirst_keeps pre s
  simp only [State.finish]
  obtain ⟨a1, a2, a3, a4, a5, a6, a7, a8, a9, a10, a11, a12, a13, a14⟩ := h1
  obtain ⟨b1, b2, b3, b4, b5, b6, b7, b8, b9, b10, b11, b12, b13, b14⟩ := h2
  refine ⟨a1.trans b1, a2.trans b2, a3.trans b3, a4.trans b4, a5.trans b5, a6.trans b6, a7.trans b7, a8.trans b8,
    a9.trans b9, a11.trans b10, a12.trans b12, a14, ?_, ?_, ?_, ?_, ?_, ?_, ?_, ?_, ?_, ?_, ?_, ?_⟩
  all_goals first | rw [a10, b14] | rw [a13, b11]

/-- An event that saw no edge and filled no first-fault record ends as it stands. -/
theorem finish_quiet (pre s : State) (he : s.edges = []) (hf : pre.flm.first = none → s.flm.first = none) :
    State.finish pre s = s := by
  have h : State.settleFirst pre s = s := by
    simp only [State.settleFirst]
    split
    · next h1 h2 => rw [hf h1] at h2; cases h2
    · rfl
  rw [State.finish, h, State.deliver, he]
  cases s
  simp_all

/-- Where no edge was seen the queues stay. -/
theorem finish_queues (pre s : State) (he : s.edges = []) : (State.finish pre s).pif = s.pif := by
  have h2 := settleFirst_keeps pre s
  have he' : (State.settleFirst pre s).edges = [] := h2.2.2.2.2.2.2.2.2.2.2.2.2.1.trans he
  rw [State.finish, State.deliver, he']
  exact h2.2.2.2.2.2.2.2.2.2.2.1

/-- A first-fault record that stood before the event, or was not filled in it, is left as it is. -/
theorem finish_first (pre s : State) (hf : pre.flm.first = none → s.flm.first = none) :
    (State.finish pre s).flm = s.flm := by
  have h : State.settleFirst pre s = s := by
    simp only [State.settleFirst]
    split
    · next h1 h2 => rw [hf h1] at h2; cases h2
    · rfl
  rw [State.finish, h, (deliver_keeps s).2.2.2.2.2.2.2.2.2.1]

@[simp] theorem doDemand_keeps (s : State) (p : Port) (l : List Byte) :
    ((doDemand p l s).state).clock = s.clock ∧ ((doDemand p l s).state).pif = s.pif ∧
    ((doDemand p l s).state).pending = s.pending := by
  simp only [doDemand, done, refuse]
  repeat' split
  all_goals first | done | simp

@[simp] theorem doResume_keeps (s : State) (p : Port) :
    ((doResume p s).state).clock = s.clock ∧ ((doResume p s).state).icu = s.icu ∧
    ((doResume p s).state).ttr = s.ttr ∧ ((doResume p s).state).leu = s.leu ∧ ((doResume p s).state).lac = s.lac ∧
    ((doResume p s).state).channels = s.channels ∧ ((doResume p s).state).chc = s.chc ∧
    ((doResume p s).state).rsu = s.rsu ∧ ((doResume p s).state).flm = s.flm ∧ ((doResume p s).state).cfs = s.cfs ∧
    ((doResume p s).state).pif = s.pif ∧ ((doResume p s).state).choice = s.choice ∧
    ((doResume p s).state).pending = s.pending := by
  simp only [doResume, done, refuse]
  repeat' split
  all_goals first | done | simp

@[simp] theorem doClearPassthrough_keeps (s : State) (p : Port) :
    ((doClearPassthrough p s).state).clock = s.clock ∧ ((doClearPassthrough p s).state).pif = s.pif ∧
    ((doClearPassthrough p s).state).pending = s.pending := by
  simp only [doClearPassthrough, done, refuse]
  repeat' split
  all_goals first | done | simp

@[simp] theorem doRestore_keeps (s : State) (l : List Byte) :
    ((doRestore l s).state).clock = s.clock ∧ ((doRestore l s).state).icu = s.icu ∧
    ((doRestore l s).state).leu = s.leu ∧ ((doRestore l s).state).lac = s.lac ∧
    ((doRestore l s).state).dar = s.dar ∧ ((doRestore l s).state).rsu = s.rsu ∧
    ((doRestore l s).state).cfs = s.cfs ∧ ((doRestore l s).state).pif = s.pif ∧
    ((doRestore l s).state).choice = s.choice ∧ ((doRestore l s).state).pending = s.pending := by
  simp only [doRestore, done, refuse]
  repeat' split
  all_goals first | done | simp

@[simp] theorem doClearFirst_keeps (s : State) :
    ((doClearFirst s).state).clock = s.clock ∧ ((doClearFirst s).state).icu = s.icu ∧
    ((doClearFirst s).state).ttr = s.ttr ∧ ((doClearFirst s).state).leu = s.leu ∧
    ((doClearFirst s).state).lac = s.lac ∧ ((doClearFirst s).state).dar = s.dar ∧
    ((doClearFirst s).state).channels = s.channels ∧ ((doClearFirst s).state).chc = s.chc ∧
    ((doClearFirst s).state).rsu = s.rsu ∧ ((doClearFirst s).state).cfs = s.cfs ∧
    ((doClearFirst s).state).pif = s.pif ∧ ((doClearFirst s).state).choice = s.choice ∧
    ((doClearFirst s).state).pending = s.pending := by
  simp only [doClearFirst, done]
  repeat' split
  all_goals first | done | simp

@[simp] theorem doCommitBrake_keeps (s : State) :
    ((doCommitBrake s).state).clock = s.clock ∧ ((doCommitBrake s).state).icu = s.icu ∧
    ((doCommitBrake s).state).ttr = s.ttr ∧ ((doCommitBrake s).state).leu = s.leu ∧
    ((doCommitBrake s).state).lac = s.lac ∧ ((doCommitBrake s).state).dar = s.dar ∧
    ((doCommitBrake s).state).channels = s.channels ∧ ((doCommitBrake s).state).chc = s.chc ∧
    ((doCommitBrake s).state).rsu = s.rsu ∧ ((doCommitBrake s).state).flm = s.flm ∧
    ((doCommitBrake s).state).pif = s.pif ∧ ((doCommitBrake s).state).choice = s.choice ∧
    ((doCommitBrake s).state).pending = s.pending := by
  simp only [doCommitBrake, refuse]
  repeat' split
  all_goals first | done | simp

@[simp] theorem doStage_keeps (s : State) (l : List Byte) :
    ((doStage l s).state).clock = s.clock ∧ ((doStage l s).state).icu = s.icu ∧ ((doStage l s).state).ttr = s.ttr ∧
    ((doStage l s).state).leu = s.leu ∧ ((doStage l s).state).lac = s.lac ∧ ((doStage l s).state).dar = s.dar ∧
    ((doStage l s).state).channels = s.channels ∧ ((doStage l s).state).chc = s.chc ∧
    ((doStage l s).state).rsu = s.rsu ∧ ((doStage l s).state).flm = s.flm ∧ ((doStage l s).state).pif = s.pif ∧
    ((doStage l s).state).choice = s.choice ∧ ((doStage l s).state).pending = s.pending := by
  simp only [doStage, done, refuse]
  repeat' split
  all_goals first | done | simp

@[simp] theorem doConfirm_keeps (s : State) (l : List Byte) :
    ((doConfirm l s).state).clock = s.clock ∧ ((doConfirm l s).state).pif = s.pif ∧
    ((doConfirm l s).state).pending = s.pending := by
  simp only [doConfirm, done, refuse]
  repeat' split
  all_goals first | done | simp

@[simp] theorem doDiscard_keeps (s : State) :
    ((doDiscard s).state).clock = s.clock ∧ ((doDiscard s).state).icu = s.icu ∧ ((doDiscard s).state).ttr = s.ttr ∧
    ((doDiscard s).state).leu = s.leu ∧ ((doDiscard s).state).lac = s.lac ∧ ((doDiscard s).state).dar = s.dar ∧
    ((doDiscard s).state).channels = s.channels ∧ ((doDiscard s).state).chc = s.chc ∧
    ((doDiscard s).state).rsu = s.rsu ∧ ((doDiscard s).state).flm = s.flm ∧ ((doDiscard s).state).pif = s.pif ∧
    ((doDiscard s).state).choice = s.choice ∧ ((doDiscard s).state).pending = s.pending := by
  simp only [doDiscard, done]
  repeat' split
  all_goals first | done | simp

@[simp] theorem doCommitTyre_keeps (s : State) :
    ((doCommitTyre s).state).clock = s.clock ∧ ((doCommitTyre s).state).icu = s.icu ∧
    ((doCommitTyre s).state).dar = s.dar ∧ ((doCommitTyre s).state).pif = s.pif ∧
    ((doCommitTyre s).state).choice = s.choice ∧ ((doCommitTyre s).state).pending = s.pending := by
  simp only [doCommitTyre, done, refuse]
  repeat' split
  all_goals first | done | simp

@[simp] theorem doLift_keeps (s : State) (p : Port) (l : List Byte) :
    ((doLift p l s).state).clock = s.clock ∧ ((doLift p l s).state).icu = s.icu ∧
    ((doLift p l s).state).dar = s.dar ∧ ((doLift p l s).state).cfs = s.cfs ∧ ((doLift p l s).state).pif = s.pif ∧
    ((doLift p l s).state).choice = s.choice ∧ ((doLift p l s).state).pending = s.pending := by
  simp only [doLift, done, refuse]
  repeat' split
  all_goals first | done | simp

@[simp] theorem doLearn_keeps (s : State) (p : Port) (l : List Byte) :
    ((doLearn p l s).state).clock = s.clock ∧ ((doLearn p l s).state).icu = s.icu ∧
    ((doLearn p l s).state).leu = s.leu ∧ ((doLearn p l s).state).lac = s.lac ∧
    ((doLearn p l s).state).dar = s.dar ∧ ((doLearn p l s).state).channels = s.channels ∧
    ((doLearn p l s).state).chc = s.chc ∧ ((doLearn p l s).state).rsu = s.rsu ∧
    ((doLearn p l s).state).flm = s.flm ∧ ((doLearn p l s).state).cfs = s.cfs ∧
    ((doLearn p l s).state).pif = s.pif ∧ ((doLearn p l s).state).choice = s.choice ∧
    ((doLearn p l s).state).pending = s.pending := by
  simp only [doLearn, done, refuse]
  repeat' split
  all_goals first | done | simp

@[simp] theorem doUnbind_keeps (s : State) (l : List Byte) :
    ((doUnbind l s).state).clock = s.clock ∧ ((doUnbind l s).state).icu = s.icu ∧
    ((doUnbind l s).state).dar = s.dar ∧ ((doUnbind l s).state).pif = s.pif ∧
    ((doUnbind l s).state).choice = s.choice ∧ ((doUnbind l s).state).pending = s.pending := by
  simp only [doUnbind, done, refuse]
  repeat' split
  all_goals first | done | simp

@[simp] theorem doAckSet_keeps (s : State) (l : List Byte) :
    ((doAckSet l s).state).clock = s.clock ∧ ((doAckSet l s).state).icu = s.icu ∧
    ((doAckSet l s).state).leu = s.leu ∧ ((doAckSet l s).state).lac = s.lac ∧ ((doAckSet l s).state).dar = s.dar ∧
    ((doAckSet l s).state).channels = s.channels ∧ ((doAckSet l s).state).chc = s.chc ∧
    ((doAckSet l s).state).rsu = s.rsu ∧ ((doAckSet l s).state).flm = s.flm ∧ ((doAckSet l s).state).cfs = s.cfs ∧
    ((doAckSet l s).state).pif = s.pif ∧ ((doAckSet l s).state).choice = s.choice ∧
    ((doAckSet l s).state).pending = s.pending := by
  simp only [doAckSet, done, refuse]
  repeat' split
  all_goals first | done | simp

@[simp] theorem doAckClear_keeps (s : State) (l : List Byte) :
    ((doAckClear l s).state).clock = s.clock ∧ ((doAckClear l s).state).icu = s.icu ∧
    ((doAckClear l s).state).leu = s.leu ∧ ((doAckClear l s).state).lac = s.lac ∧
    ((doAckClear l s).state).dar = s.dar ∧ ((doAckClear l s).state).channels = s.channels ∧
    ((doAckClear l s).state).chc = s.chc ∧ ((doAckClear l s).state).rsu = s.rsu ∧
    ((doAckClear l s).state).flm = s.flm ∧ ((doAckClear l s).state).cfs = s.cfs ∧
    ((doAckClear l s).state).pif = s.pif ∧ ((doAckClear l s).state).choice = s.choice ∧
    ((doAckClear l s).state).pending = s.pending := by
  simp only [doAckClear, done, refuse]
  repeat' split
  all_goals first | done | simp

@[simp] theorem doCalOpen_keeps (s : State) :
    ((doCalOpen s).state).clock = s.clock ∧ ((doCalOpen s).state).icu = s.icu ∧ ((doCalOpen s).state).ttr = s.ttr ∧
    ((doCalOpen s).state).lac = s.lac ∧ ((doCalOpen s).state).dar = s.dar ∧
    ((doCalOpen s).state).channels = s.channels ∧ ((doCalOpen s).state).chc = s.chc ∧
    ((doCalOpen s).state).rsu = s.rsu ∧ ((doCalOpen s).state).flm = s.flm ∧ ((doCalOpen s).state).cfs = s.cfs ∧
    ((doCalOpen s).state).pif = s.pif ∧ ((doCalOpen s).state).choice = s.choice ∧
    ((doCalOpen s).state).pending = s.pending := by
  simp only [doCalOpen, done, refuse]
  repeat' split
  all_goals first | done | simp

@[simp] theorem recordCapture_keeps (s : State) (q : Capture) (b : Bellows) :
    (recordCapture q s b).clock = s.clock ∧ (recordCapture q s b).icu = s.icu ∧ (recordCapture q s b).ttr = s.ttr ∧
    (recordCapture q s b).lac = s.lac ∧ (recordCapture q s b).dar = s.dar ∧
    (recordCapture q s b).channels = s.channels ∧ (recordCapture q s b).chc = s.chc ∧
    (recordCapture q s b).rsu = s.rsu ∧ (recordCapture q s b).flm = s.flm ∧ (recordCapture q s b).cfs = s.cfs ∧
    (recordCapture q s b).pif = s.pif ∧ (recordCapture q s b).choice = s.choice ∧
    (recordCapture q s b).pending = s.pending := by
  simp only [recordCapture]
  repeat' split
  all_goals first | done | simp

@[simp] theorem judgeCandidate_keeps (s : State) (b : Bellows) :
    (judgeCandidate s b).clock = s.clock ∧ (judgeCandidate s b).icu = s.icu ∧ (judgeCandidate s b).ttr = s.ttr ∧
    (judgeCandidate s b).lac = s.lac ∧ (judgeCandidate s b).dar = s.dar ∧
    (judgeCandidate s b).channels = s.channels ∧ (judgeCandidate s b).chc = s.chc ∧
    (judgeCandidate s b).rsu = s.rsu ∧ (judgeCandidate s b).flm = s.flm ∧ (judgeCandidate s b).cfs = s.cfs ∧
    (judgeCandidate s b).pif = s.pif ∧ (judgeCandidate s b).choice = s.choice ∧
    (judgeCandidate s b).pending = s.pending := by
  simp only [judgeCandidate]
  repeat' split
  all_goals first | done | simp

@[simp] theorem revertSensor_keeps (s : State) (b : Bellows) :
    (revertSensor s b).clock = s.clock ∧ (revertSensor s b).icu = s.icu ∧ (revertSensor s b).ttr = s.ttr ∧
    (revertSensor s b).lac = s.lac ∧ (revertSensor s b).dar = s.dar ∧ (revertSensor s b).channels = s.channels ∧
    (revertSensor s b).chc = s.chc ∧ (revertSensor s b).rsu = s.rsu ∧ (revertSensor s b).flm = s.flm ∧
    (revertSensor s b).cfs = s.cfs ∧ (revertSensor s b).pif = s.pif ∧ (revertSensor s b).choice = s.choice ∧
    (revertSensor s b).pending = s.pending := by
  simp only [revertSensor]
  repeat' split
  all_goals first | done | simp

@[simp] theorem recordCaptures_keeps (s : State) (l : List Bellows) (q : Capture) :
    (l.foldl (recordCapture q) s).clock = s.clock ∧
    (l.foldl (recordCapture q) s).icu = s.icu ∧
    (l.foldl (recordCapture q) s).ttr = s.ttr ∧
    (l.foldl (recordCapture q) s).lac = s.lac ∧
    (l.foldl (recordCapture q) s).dar = s.dar ∧
    (l.foldl (recordCapture q) s).channels = s.channels ∧
    (l.foldl (recordCapture q) s).chc = s.chc ∧
    (l.foldl (recordCapture q) s).rsu = s.rsu ∧
    (l.foldl (recordCapture q) s).flm = s.flm ∧
    (l.foldl (recordCapture q) s).cfs = s.cfs ∧
    (l.foldl (recordCapture q) s).pif = s.pif ∧
    (l.foldl (recordCapture q) s).choice = s.choice ∧
    (l.foldl (recordCapture q) s).pending = s.pending :=
  ⟨foldl_keeps (·.clock) _ (fun s x => by simp) _ s, foldl_keeps (·.icu) _ (fun s x => by simp) _ s, foldl_keeps (·.ttr) _ (fun s x => by simp) _ s, foldl_keeps (·.lac) _ (fun s x => by simp) _ s, foldl_keeps (·.dar) _ (fun s x => by simp) _ s, foldl_keeps (·.channels) _ (fun s x => by simp) _ s, foldl_keeps (·.chc) _ (fun s x => by simp) _ s, foldl_keeps (·.rsu) _ (fun s x => by simp) _ s, foldl_keeps (·.flm) _ (fun s x => by simp) _ s, foldl_keeps (·.cfs) _ (fun s x => by simp) _ s, foldl_keeps (·.pif) _ (fun s x => by simp) _ s, foldl_keeps (·.choice) _ (fun s x => by simp) _ s, foldl_keeps (·.pending) _ (fun s x => by simp) _ s⟩

@[simp] theorem judgeCandidates_keeps (s : State) (l : List Bellows) :
    (l.foldl judgeCandidate s).clock = s.clock ∧
    (l.foldl judgeCandidate s).icu = s.icu ∧
    (l.foldl judgeCandidate s).ttr = s.ttr ∧
    (l.foldl judgeCandidate s).lac = s.lac ∧
    (l.foldl judgeCandidate s).dar = s.dar ∧
    (l.foldl judgeCandidate s).channels = s.channels ∧
    (l.foldl judgeCandidate s).chc = s.chc ∧
    (l.foldl judgeCandidate s).rsu = s.rsu ∧
    (l.foldl judgeCandidate s).flm = s.flm ∧
    (l.foldl judgeCandidate s).cfs = s.cfs ∧
    (l.foldl judgeCandidate s).pif = s.pif ∧
    (l.foldl judgeCandidate s).choice = s.choice ∧
    (l.foldl judgeCandidate s).pending = s.pending :=
  ⟨foldl_keeps (·.clock) _ (fun s x => by simp) _ s, foldl_keeps (·.icu) _ (fun s x => by simp) _ s, foldl_keeps (·.ttr) _ (fun s x => by simp) _ s, foldl_keeps (·.lac) _ (fun s x => by simp) _ s, foldl_keeps (·.dar) _ (fun s x => by simp) _ s, foldl_keeps (·.channels) _ (fun s x => by simp) _ s, foldl_keeps (·.chc) _ (fun s x => by simp) _ s, foldl_keeps (·.rsu) _ (fun s x => by simp) _ s, foldl_keeps (·.flm) _ (fun s x => by simp) _ s, foldl_keeps (·.cfs) _ (fun s x => by simp) _ s, foldl_keeps (·.pif) _ (fun s x => by simp) _ s, foldl_keeps (·.choice) _ (fun s x => by simp) _ s, foldl_keeps (·.pending) _ (fun s x => by simp) _ s⟩

@[simp] theorem revertSensors_keeps (s : State) (l : List Bellows) :
    (l.foldl revertSensor s).clock = s.clock ∧
    (l.foldl revertSensor s).icu = s.icu ∧
    (l.foldl revertSensor s).ttr = s.ttr ∧
    (l.foldl revertSensor s).lac = s.lac ∧
    (l.foldl revertSensor s).dar = s.dar ∧
    (l.foldl revertSensor s).channels = s.channels ∧
    (l.foldl revertSensor s).chc = s.chc ∧
    (l.foldl revertSensor s).rsu = s.rsu ∧
    (l.foldl revertSensor s).flm = s.flm ∧
    (l.foldl revertSensor s).cfs = s.cfs ∧
    (l.foldl revertSensor s).pif = s.pif ∧
    (l.foldl revertSensor s).choice = s.choice ∧
    (l.foldl revertSensor s).pending = s.pending :=
  ⟨foldl_keeps (·.clock) _ (fun s x => by simp) _ s, foldl_keeps (·.icu) _ (fun s x => by simp) _ s, foldl_keeps (·.ttr) _ (fun s x => by simp) _ s, foldl_keeps (·.lac) _ (fun s x => by simp) _ s, foldl_keeps (·.dar) _ (fun s x => by simp) _ s, foldl_keeps (·.channels) _ (fun s x => by simp) _ s, foldl_keeps (·.chc) _ (fun s x => by simp) _ s, foldl_keeps (·.rsu) _ (fun s x => by simp) _ s, foldl_keeps (·.flm) _ (fun s x => by simp) _ s, foldl_keeps (·.cfs) _ (fun s x => by simp) _ s, foldl_keeps (·.pif) _ (fun s x => by simp) _ s, foldl_keeps (·.choice) _ (fun s x => by simp) _ s, foldl_keeps (·.pending) _ (fun s x => by simp) _ s⟩

@[simp] theorem calChanged_keeps (s : State) (b : Bool) :
    (calChanged b s).clock = s.clock ∧ (calChanged b s).icu = s.icu ∧ (calChanged b s).lac = s.lac ∧
    (calChanged b s).dar = s.dar ∧ (calChanged b s).pif = s.pif ∧ (calChanged b s).choice = s.choice ∧
    (calChanged b s).pending = s.pending := by
  simp only [calChanged]
  repeat' split
  all_goals first | done | simp

@[simp] theorem doCapture_keeps (s : State) (l : List Byte) :
    ((doCapture l s).state).clock = s.clock ∧ ((doCapture l s).state).icu = s.icu ∧
    ((doCapture l s).state).ttr = s.ttr ∧ ((doCapture l s).state).lac = s.lac ∧
    ((doCapture l s).state).dar = s.dar ∧ ((doCapture l s).state).channels = s.channels ∧
    ((doCapture l s).state).chc = s.chc ∧ ((doCapture l s).state).rsu = s.rsu ∧
    ((doCapture l s).state).flm = s.flm ∧ ((doCapture l s).state).cfs = s.cfs ∧
    ((doCapture l s).state).pif = s.pif ∧ ((doCapture l s).state).choice = s.choice ∧
    ((doCapture l s).state).pending = s.pending := by
  simp only [doCapture, done, refuse]
  repeat' split
  all_goals first | done | simp

@[simp] theorem doCalApply_keeps (s : State) :
    ((doCalApply s).state).clock = s.clock ∧ ((doCalApply s).state).icu = s.icu ∧
    ((doCalApply s).state).dar = s.dar ∧ ((doCalApply s).state).pif = s.pif ∧
    ((doCalApply s).state).choice = s.choice ∧ ((doCalApply s).state).pending = s.pending := by
  simp only [doCalApply, refuse]
  repeat' split
  all_goals first | done | simp

@[simp] theorem doRevert_keeps (s : State) (l : List Byte) :
    ((doRevert l s).state).clock = s.clock ∧ ((doRevert l s).state).icu = s.icu ∧
    ((doRevert l s).state).dar = s.dar ∧ ((doRevert l s).state).pif = s.pif ∧
    ((doRevert l s).state).choice = s.choice ∧ ((doRevert l s).state).pending = s.pending := by
  simp only [doRevert, done, refuse]
  repeat' split
  all_goals first | done | simp

@[simp] theorem doCalClose_keeps (s : State) :
    ((doCalClose s).state).clock = s.clock ∧ ((doCalClose s).state).icu = s.icu ∧
    ((doCalClose s).state).ttr = s.ttr ∧ ((doCalClose s).state).lac = s.lac ∧ ((doCalClose s).state).dar = s.dar ∧
    ((doCalClose s).state).channels = s.channels ∧ ((doCalClose s).state).chc = s.chc ∧
    ((doCalClose s).state).rsu = s.rsu ∧ ((doCalClose s).state).flm = s.flm ∧ ((doCalClose s).state).cfs = s.cfs ∧
    ((doCalClose s).state).pif = s.pif ∧ ((doCalClose s).state).choice = s.choice ∧
    ((doCalClose s).state).pending = s.pending := by
  simp only [doCalClose, done]
  repeat' split
  all_goals first | done | simp

@[simp] theorem doSnapshotInterval_keeps (s : State) (l : List Byte) :
    ((doSnapshotInterval l s).state).clock = s.clock ∧ ((doSnapshotInterval l s).state).icu = s.icu ∧
    ((doSnapshotInterval l s).state).ttr = s.ttr ∧ ((doSnapshotInterval l s).state).leu = s.leu ∧
    ((doSnapshotInterval l s).state).lac = s.lac ∧ ((doSnapshotInterval l s).state).dar = s.dar ∧
    ((doSnapshotInterval l s).state).channels = s.channels ∧ ((doSnapshotInterval l s).state).chc = s.chc ∧
    ((doSnapshotInterval l s).state).rsu = s.rsu ∧ ((doSnapshotInterval l s).state).flm = s.flm ∧
    ((doSnapshotInterval l s).state).cfs = s.cfs ∧ ((doSnapshotInterval l s).state).choice = s.choice ∧
    ((doSnapshotInterval l s).state).pending = s.pending := by
  simp only [doSnapshotInterval, refuse]
  repeat' split
  all_goals first | done | simp

@[simp] theorem doRead_keeps (s : State) (p : Port) (l : List Byte) :
    ((doRead p l s).state).clock = s.clock ∧ ((doRead p l s).state).icu = s.icu ∧
    ((doRead p l s).state).ttr = s.ttr ∧ ((doRead p l s).state).leu = s.leu ∧ ((doRead p l s).state).lac = s.lac ∧
    ((doRead p l s).state).dar = s.dar ∧ ((doRead p l s).state).channels = s.channels ∧
    ((doRead p l s).state).chc = s.chc ∧ ((doRead p l s).state).rsu = s.rsu ∧ ((doRead p l s).state).flm = s.flm ∧
    ((doRead p l s).state).cfs = s.cfs ∧ ((doRead p l s).state).choice = s.choice ∧
    ((doRead p l s).state).pending = s.pending := by
  simp only [doRead, refuse]
  repeat' split
  all_goals first | done | simp

@[simp] theorem doIdentify_keeps (s : State) :
    ((doIdentify s).state).clock = s.clock ∧ ((doIdentify s).state).icu = s.icu ∧
    ((doIdentify s).state).ttr = s.ttr ∧ ((doIdentify s).state).leu = s.leu ∧ ((doIdentify s).state).lac = s.lac ∧
    ((doIdentify s).state).dar = s.dar ∧ ((doIdentify s).state).channels = s.channels ∧
    ((doIdentify s).state).chc = s.chc ∧ ((doIdentify s).state).rsu = s.rsu ∧ ((doIdentify s).state).flm = s.flm ∧
    ((doIdentify s).state).cfs = s.cfs ∧ ((doIdentify s).state).pif = s.pif ∧
    ((doIdentify s).state).choice = s.choice ∧ ((doIdentify s).state).pending = s.pending := by
  simp only [doIdentify]
  repeat' split
  all_goals first | done | simp

@[simp] theorem doSubscribe_keeps (s : State) (f : BitVec 20 → BitVec 20 → BitVec 20) (p : Port) (l : List Byte) :
    ((doSubscribe f p l s).state).clock = s.clock ∧ ((doSubscribe f p l s).state).icu = s.icu ∧
    ((doSubscribe f p l s).state).ttr = s.ttr ∧ ((doSubscribe f p l s).state).leu = s.leu ∧
    ((doSubscribe f p l s).state).lac = s.lac ∧ ((doSubscribe f p l s).state).dar = s.dar ∧
    ((doSubscribe f p l s).state).channels = s.channels ∧ ((doSubscribe f p l s).state).chc = s.chc ∧
    ((doSubscribe f p l s).state).rsu = s.rsu ∧ ((doSubscribe f p l s).state).flm = s.flm ∧
    ((doSubscribe f p l s).state).cfs = s.cfs ∧ ((doSubscribe f p l s).state).choice = s.choice ∧
    ((doSubscribe f p l s).state).pending = s.pending := by
  simp only [doSubscribe, refuse]
  repeat' split
  all_goals first | done | simp

@[simp] theorem doEvents_keeps (s : State) (f : Nat → PortQueue → PortQueue) (p : Port) (l : List Byte) :
    ((doEvents f p l s).state).clock = s.clock ∧ ((doEvents f p l s).state).icu = s.icu ∧
    ((doEvents f p l s).state).ttr = s.ttr ∧ ((doEvents f p l s).state).leu = s.leu ∧
    ((doEvents f p l s).state).lac = s.lac ∧ ((doEvents f p l s).state).dar = s.dar ∧
    ((doEvents f p l s).state).channels = s.channels ∧ ((doEvents f p l s).state).chc = s.chc ∧
    ((doEvents f p l s).state).rsu = s.rsu ∧ ((doEvents f p l s).state).flm = s.flm ∧
    ((doEvents f p l s).state).cfs = s.cfs ∧ ((doEvents f p l s).state).choice = s.choice ∧
    ((doEvents f p l s).state).pending = s.pending := by
  simp only [doEvents, refuse]
  repeat' split
  all_goals first | done | simp

@[simp] theorem doPortReset_keeps (s : State) (p : Port) :
    ((doPortReset p s).state).clock = s.clock ∧ ((doPortReset p s).state).pending = s.pending := by
  simp only [doPortReset, done]
  repeat' split
  all_goals first | done | simp

end Sys2Proof.Machine
end

