-- ==== Sys2Proof/Tests/Decides.lean ====
section
/-! SUPPORT. The invariants are decidable: a test state is shown to meet them by one evaluation of each. -/

namespace Sys2Proof.Tests
open Sys2Proof.Machine

set_option synthInstance.maxSize 1000

/-! ## Quantifiers over the machine's index types -/

/-- A property of every element of a type is decided by checking a list that misses none. -/
abbrev decideAll {α : Type} (l : List α) (mem : ∀ x, x ∈ l) (p : α → Prop) [∀ x, Decidable (p x)] :
    Decidable (∀ x, p x) :=
  decidable_of_iff (∀ x ∈ l, p x) ⟨fun h x => h x (mem x), fun h x _ => h x⟩

abbrev allChannels (p : Channel → Prop) [∀ c, Decidable (p c)] : Decidable (∀ c, p c) :=
  decideAll Channel.list (fun c => by cases c <;> decide) p

abbrev allFns (p : CoilFn → Prop) [∀ f, Decidable (p f)] : Decidable (∀ f, p f) :=
  decideAll [.inlet, .exhaust, .backup] (fun f => by cases f <;> decide) p

abbrev allCoils (p : Coil → Prop) [∀ k, Decidable (p k)] : Decidable (∀ k, p k) :=
  decideAll Coil.list (fun k => by rcases k with ⟨c, f⟩ | _; (cases c <;> cases f <;> decide); decide) p

abbrev allPorts (p : Port → Prop) [∀ q, Decidable (p q)] : Decidable (∀ q, p q) :=
  decideAll [.a, .b, .t] (fun q => by cases q <;> decide) p

abbrev allControllers (p : Controller → Prop) [∀ k, Decidable (p k)] : Decidable (∀ k, p k) :=
  decideAll [.a, .b] (fun k => by cases k <;> decide) p

abbrev allBellows (p : Bellows → Prop) [∀ b, Decidable (p b)] : Decidable (∀ b, p b) :=
  decideAll Bellows.list (fun b => by cases b <;> decide) p

abbrev allTyres (p : Tyre → Prop) [∀ y, Decidable (p y)] : Decidable (∀ y, p y) :=
  decideAll Tyre.list (fun y => by cases y <;> decide) p

abbrev allWheels (p : WheelEnd → Prop) [∀ w, Decidable (p w)] : Decidable (∀ w, p w) :=
  decideAll WheelEnd.list (fun w => by cases w <;> decide) p

abbrev allSections (p : Section → Prop) [∀ x, Decidable (p x)] : Decidable (∀ x, p x) :=
  decideAll Section.list (fun x => by cases x <;> decide) p

/-- A property of the value of an option, where it has one. -/
abbrev allSome {α : Type} (o : Option α) (p : α → Prop) [∀ x, Decidable (p x)] :
    Decidable (∀ x, o = some x → p x) :=
  match o with
  | none => isTrue fun _ h => nomatch h
  | some y => decidable_of_iff (p y) ⟨fun h _ e => Option.some.inj e ▸ h, fun h => h y rfl⟩

/-- A property of the content of a section whose check passes. -/
abbrev allGood (st : Stored) (p : Content → Prop) [∀ q, Decidable (p q)] : Decidable (∀ q, st = .good q → p q) :=
  match st with
  | .good q => decidable_of_iff (p q) ⟨fun h _ e => Stored.good.inj e ▸ h, fun h => h q rfl⟩
  | .blank => isTrue fun _ h => nomatch h
  | .failing => isTrue fun _ h => nomatch h

/-! ## The invariants -/

abbrev decideFaults (s : State) : Decidable (FaultsOk s) := by
  unfold FaultsOk; infer_instance

abbrev decidePorts (s : State) : Decidable (PortsOk s) := by
  haveI := @allPorts
  unfold PortsOk; infer_instance

abbrev decideCoils (s : State) : Decidable (CoilsOk s) := by
  haveI := @allChannels
  haveI := @allFns
  haveI := @allCoils
  unfold CoilsOk; infer_instance

abbrev decideChannels (s : State) : Decidable (ChannelsOk s) := by
  haveI := @allChannels
  haveI := @allWheels
  unfold ChannelsOk; infer_instance

abbrev decideDemand (s : State) : Decidable (DemandOk s) := by
  haveI := @allControllers
  haveI := @allSome
  unfold DemandOk; infer_instance

abbrev decideRoll (s : State) : Decidable (RollOk s) := by
  haveI := @allChannels
  unfold RollOk; infer_instance

abbrev decideLoads (s : State) : Decidable (LoadsOk s) := by
  haveI := @allBellows
  unfold LoadsOk; infer_instance

abbrev decideLift (s : State) : Decidable (LiftOk s) := by
  unfold LiftOk; infer_instance

abbrev decideDistinct (b : PerTyre (Option (BitVec 32))) : Decidable (bindingsDistinct b) := by
  haveI := @allTyres
  haveI := @allSome
  exact decidable_of_iff (∀ y z, ∀ id, b.get y = some id → b.get z = some id → y = z) Iff.rfl

abbrev decideBindings (st : Stored) :
    Decidable (∀ b, st = .good (.bindings b) → bindingsDistinct b) :=
  match st with
  | .good (.bindings b) =>
    haveI := decideDistinct b
    decidable_of_iff (bindingsDistinct b) ⟨fun h _ e => by cases e; exact h, fun h => h b rfl⟩
  | .good (.brake _) | .good (.tyre _) | .good (.calibration _) | .blank | .failing => isTrue fun _ h => nomatch h

abbrev decideWritten (w : Option WriteRun) :
    Decidable (∀ r b, w = some r → r.content = .bindings b → bindingsDistinct b) :=
  match w with
  | none => isTrue fun _ _ h => nomatch h
  | some ⟨_, .bindings b⟩ =>
    haveI := decideDistinct b
    decidable_of_iff (bindingsDistinct b) ⟨fun h _ _ e f => by cases e; cases f; exact h, fun h => h _ b rfl rfl⟩
  | some ⟨_, .brake _⟩ | some ⟨_, .tyre _⟩ | some ⟨_, .calibration _⟩ =>
    isTrue fun _ _ e f => by cases e; cases f

abbrev decideTyres (s : State) : Decidable (TyresOk s) := by
  haveI := @allTyres
  haveI := @allWheels
  haveI := @allSome
  haveI := @decideBindings
  haveI := @decideWritten
  unfold TyresOk; infer_instance

abbrev decideSetpoints (s : State) : Decidable (SetpointsOk s) := by
  haveI := @allChannels
  unfold SetpointsOk; infer_instance

abbrev decideLegal (q : Content) : Decidable q.legal := by
  cases q <;>
    simp only [Content.legal, BrakeSet.legal, BrakeSet.inRange, TyreSet.legal, TyreSet.inRange] <;> infer_instance

abbrev decideConfig (s : State) : Decidable (ConfigOk s) := by
  haveI := @allSections
  haveI := @allSome
  haveI := @allGood
  haveI := @decideLegal
  unfold ConfigOk BrakeSet.legal BrakeSet.inRange TyreSet.legal TyreSet.inRange; infer_instance

/-- Every invariant but that of chapter 9 evaluates to true on a state. -/
def blocksMeet (s : State) : Bool :=
  @decide _ (decideFaults s) && @decide _ (decidePorts s) && @decide _ (decideCoils s) &&
    @decide _ (decideChannels s) && @decide _ (decideDemand s) && @decide _ (decideRoll s) &&
    @decide _ (decideLoads s) && @decide _ (decideLift s) && @decide _ (decideTyres s) && @decide _ (decideSetpoints s)

theorem inv_of_config (s : State) (c : ConfigOk s) (h : blocksMeet s = true) : Inv s := by
  simp only [blocksMeet, Bool.and_eq_true, decide_eq_true_eq] at h
  obtain ⟨⟨⟨⟨⟨⟨⟨⟨⟨a, b⟩, d⟩, e⟩, f⟩, g⟩, i⟩, j⟩, k⟩, l⟩ := h
  exact ⟨a, b, d, e, f, g, i, j, k, l, c⟩

/-- A state meets the invariants where each evaluates to true on it. -/
theorem inv_of (s : State) (h : (blocksMeet s && @decide _ (decideConfig s)) = true) : Inv s := by
  simp only [Bool.and_eq_true, decide_eq_true_eq] at h
  exact inv_of_config s h.2 h.1

/-- The same, with the store of a state that meets them. -/
theorem inv_like {s t : State} (c : Inv s) (h : t.cfs = s.cfs)
    (k : (blocksMeet t && t.faulted .unconfigured == s.faulted .unconfigured) = true) : Inv t := by
  simp only [Bool.and_eq_true, beq_iff_eq] at k
  refine inv_of_config t ?_ k.1
  simpa only [ConfigOk, State.sect, h, k.2] using c.config

end Sys2Proof.Tests
end

