-- ==== Sys2Proof/WellFormed.lean ====
section
/-! DEFINITION. The commands that the part's pins and ports can carry: bounds that a type does not state. -/

namespace Sys2Proof

/-- A delay within half the range of the millisecond counter, so that deadlines can be compared by
difference (log entry 4). -/
def delayOk (dt : Delay) : Bool := decide (dt < 2 ^ 31 * 1000)

/-- A payload of a command frame: 0 to 48 bytes (R181). -/
def payloadOk (payload : List Byte) : Bool := decide (payload.length ≤ 48)

/-- A reading of the converter: an integer that 32 bits hold in two's complement (log entry 15). -/
def readingOk (r : Int) : Bool := decide (-2147483648 ≤ r) && decide (r < 2147483648)

/-- The bytes of a frame that fails the frame check: at most the 257 that a length byte can call for and
that port T then receives (R182). -/
def badFrameOk (bytes : List Byte) : Bool := decide (bytes.length ≤ 257)

/-- The well-formed commands. -/
def Instr.wellFormed : Instr → Bool
  | .hardReset _ => true
  | .spiTransactionBegin dt _ => delayOk dt
  | .nullFrame dt _ => delayOk dt
  | .badFrame dt _ bytes => delayOk dt && badFrameOk bytes
  | .portTFrameGap dt => delayOk dt
  | .portTFramingError dt => delayOk dt
  | .portTFrameDropped dt => delayOk dt
  | .portTResponseSent dt => delayOk dt
  | .demand dt _ _ payload => delayOk dt && payloadOk payload
  | .resumeElectric dt _ _ payload => delayOk dt && payloadOk payload
  | .clearPassthrough dt _ _ payload => delayOk dt && payloadOk payload
  | .jointReset dt _ _ payload => delayOk dt && payloadOk payload
  | .channelRestore dt _ _ payload => delayOk dt && payloadOk payload
  | .clearFirst dt _ _ payload => delayOk dt && payloadOk payload
  | .commitBrake dt _ _ payload => delayOk dt && payloadOk payload
  | .stage dt _ _ payload => delayOk dt && payloadOk payload
  | .confirmBrake dt _ _ payload => delayOk dt && payloadOk payload
  | .discardBrake dt _ _ payload => delayOk dt && payloadOk payload
  | .commitTyre dt _ _ payload => delayOk dt && payloadOk payload
  | .liftRequest dt _ _ payload => delayOk dt && payloadOk payload
  | .learn dt _ _ payload => delayOk dt && payloadOk payload
  | .unbind dt _ _ payload => delayOk dt && payloadOk payload
  | .tyreAckSet dt _ _ payload => delayOk dt && payloadOk payload
  | .tyreAckClear dt _ _ payload => delayOk dt && payloadOk payload
  | .clearInactive dt _ _ payload => delayOk dt && payloadOk payload
  | .calOpen dt _ _ payload => delayOk dt && payloadOk payload
  | .calCapture dt _ _ payload => delayOk dt && payloadOk payload
  | .calApply dt _ _ payload => delayOk dt && payloadOk payload
  | .calRevert dt _ _ payload => delayOk dt && payloadOk payload
  | .calClose dt _ _ payload => delayOk dt && payloadOk payload
  | .snapshotInterval dt _ _ payload => delayOk dt && payloadOk payload
  | .readRecord dt _ _ payload => delayOk dt && payloadOk payload
  | .identify dt _ _ payload => delayOk dt && payloadOk payload
  | .subscribeSet dt _ _ payload => delayOk dt && payloadOk payload
  | .subscribeClear dt _ _ payload => delayOk dt && payloadOk payload
  | .takeEvents dt _ _ payload => delayOk dt && payloadOk payload
  | .peekEvents dt _ _ payload => delayOk dt && payloadOk payload
  | .portReset dt _ _ payload => delayOk dt && payloadOk payload
  | .analogSample dt _ reading _ => delayOk dt && readingOk reading
  | .inputHoldExpiry dt _ => delayOk dt
  | .settlingBadRunExpiry dt _ => delayOk dt
  | .toothEdge dt _ => delayOk dt
  | .wheelEvaluation dt => delayOk dt
  | .openWireAppear dt _ => delayOk dt
  | .openWireDisappear dt _ => delayOk dt
  | .wheelHoldExpiry dt _ => delayOk dt
  | .wheelRecoveryExpiry dt _ => delayOk dt
  | .supplyLowTimerExpiry dt => delayOk dt
  | .supplyClearTimerExpiry dt => delayOk dt
  | .telegramLengthRejected dt _ => delayOk dt
  | .telegramFrame dt _ => delayOk dt
  | .telegramGapTimeout dt => delayOk dt
  | .telegramFramingError dt => delayOk dt
  | .missingDeadlineExpiry dt _ => delayOk dt
  | .learnDeadlineExpiry dt => delayOk dt
  | .dragTimerExpiry dt _ => delayOk dt
  | .releaseTimerExpiry dt => delayOk dt
  | .raiseTimeout dt => delayOk dt
  | .lowerTimeout dt => delayOk dt
  | .autoTimerExpiry dt => delayOk dt
  | .buttonInputChange dt _ => delayOk dt
  | .buttonDebounced dt => delayOk dt
  | .freshnessDeadlineExpiry dt _ => delayOk dt
  | .holdDeadlineExpiry dt => delayOk dt
  | .resumeWindowComplete dt => delayOk dt
  | .mismatchTimerExpiry dt => delayOk dt
  | .supplyLowTimer1000 dt => delayOk dt
  | .referenceEvaluation dt => delayOk dt
  | .dumpDeadlineExpiry dt _ => delayOk dt
  | .antilockHoldExpiry dt _ => delayOk dt
  | .reapplyStep dt _ => delayOk dt
  | .trackingTimeReached dt _ => delayOk dt
  | .safeHoldExpiry dt _ => delayOk dt
  | .convergeTimeout dt _ => delayOk dt
  | .onCheckExpiry dt _ _ => delayOk dt
  | .overcurrent dt _ => delayOk dt
  | .patrolVisit dt _ => delayOk dt
  | .probeDeadlineExpiry dt => delayOk dt
  | .quietTimerComplete dt => delayOk dt
  | .recoveryStep dt => delayOk dt
  | .commitExpiry dt => delayOk dt
  | .storeWriteEnd dt _ => delayOk dt
  | .snapshotTimerExpiry dt => delayOk dt
  | .jointResetWindowClose dt => delayOk dt
  | .telegramLineByte dt _ => delayOk dt
  | .portTByte dt _ => delayOk dt

end Sys2Proof
end

