-- ==== Sys2Proof/Tests/Slice0.lean ====
section
/-! SUPPORT. Tests on small states: a witness for the hypotheses of every statement that has any, the refusal of
ill-formed commands, and the manual's worked examples. -/

namespace Sys2Proof.Tests
open Sys2Proof.Machine

set_option Elab.async false

/-! ## States to start from -/

/-- An input set to a state and a value. -/
def withInput (i : InputId) (st : InState) (v : Int) (s : State) : State :=
  s.setInput i { s.input i with state := st, filtered := v, window := [v] }

/-- A part at rest, with air, its axle down, in SENSED, with the bellows and the control line read. -/
def rested : State :=
  let s := withInput .pcl .valid 0 (withInput .pbl .valid 200 (withInput .pbr .valid 200 (withInput .pbx .valid 200
    State.reset)))
  recomputeSensors Bellows.list { s with
    dar := { s.dar with mode := .sensed, e := ⟨0, .valid⟩ }
    chc := { s.chc with ref := ⟨0, .valid⟩ }
    lac := { s.lac with state := .down, deadline := none }
    rsu := { s.rsu with causes := ⟨true, false, false⟩ }
    cfs := { s.cfs with brakeGood := true }
    pending := [.identify 0 .t none []] }

/-- The same part with its axle in another lift state. -/
def raised (st : LiftState) (deadline : Option Stamp) : State := setLift st deadline rested

def up : State := raised .up none
def coming : State := raised .lowering (some 8000)

/-- Every wheel end VALID at a speed, but W2L at another. -/
def wheeled (v slow : Int) (s : State) : State :=
  let w : WheelRec := { s.icu.wheels.w2L with state := .valid, published := v }
  { s with icu.wheels := (PerWheel.all w).set .w2L { w with published := slow }, chc.ref := ⟨v, .valid⟩ }

/-- The same part under way, in PROBE. -/
def probing : State :=
  let s := clear .rollUnavailable (withInput .alat .valid 400 rested)
  rollToProbe { s with chc.ref := ⟨300, .valid⟩, rsu.state := .watch, rsu.causes := ⟨false, false, false⟩ }

@[simp] theorem withInput_cfs (i : InputId) (st : InState) (v : Int) (s : State) : (withInput i st v s).cfs = s.cfs :=
  rfl

theorem rested_inv : Inv rested := inv_of _ (by decide +kernel)

theorem up_inv : Inv up := inv_like rested_inv (by simp [up, raised]) (by decide +kernel)

theorem coming_inv : Inv coming := inv_like rested_inv (by simp [coming, raised]) (by decide +kernel)

theorem probing_inv : Inv probing := inv_like rested_inv (by simp [probing]) (by decide +kernel)

/-! ## Witnesses: a state and operands that meet the hypotheses of each statement, clause by clause -/

/-- The reset state. -/
abbrev r0 : State := State.reset

/-- The state after a command. -/
def afterCommand (c : Instr) (s : State) : State :=
  match exec c s with
  | .next t => t
  | _ => s

/-- Port T holds `n` responses. -/
def holdingT (n : Nat) : State := { r0 with pif.uart.held := List.replicate n ⟨25#8, .done []⟩ }

/-- A brake commit with digest 0x1234 and its deadline at the present time. -/
def committed (confirmed : Bool) (s : State) : State :=
  { s with cfs.commit := ⟨true, confirmed, some 0x1234#16, some 0, .none, none⟩ }

/-- A state in another demand mode. -/
def inMode (m : DemandMode) (s : State) : State := { s with dar.mode := m }

/-- A channel's record changed. -/
def withChan (c : Channel) (f : ChannelRec → ChannelRec) (s : State) : State := s.setChan c (f (s.chan c))

/-- A tyre's record changed. -/
def withTyre (y : Tyre) (f : TyreRec → TyreRec) (s : State) : State := s.setTyre y (f (s.tyre y))

/-- A learn open for a position. -/
def learning (y : Tyre) (p : Port) : State := { r0 with ttr.learn.slot := some ⟨y, p, 0, 0⟩ }

/-- An open calibration session with one capture of PBL. -/
def session : State :=
  { rested with
    leu.sessionOpen := true
    leu.captures := ⟨⟨none, some (400, 9000)⟩, ⟨some (300, 500), some (349, 9000)⟩, ⟨none, none⟩⟩ }

theorem witness_LevelChangesReachPorts :
    let s : State := { r0 with pif.queues.t.riseMask := 0x20000#20 }
    ∃ t, exec (.learn 0 .t none [11]) s = .next t ∧ (Instr.learn 0 .t none [11]).delay.isSome = true ∧
      holds .learnOpen t ≠ holds .learnOpen s ∧
      (t.pif.queues.get .t).wants ⟨.learnOpen, holds .learnOpen t⟩ = true :=
  ⟨_, rfl, by decide +kernel, by decide +kernel, by decide +kernel⟩

theorem witness_FrameBytesReadBack :
    (⟨.readRecord, some ⟨.snapshotReady, true⟩, List.replicate 48 0#8⟩ : Frame).payload.length ≤ 48 := by
  decide +kernel

theorem witness_BadFramesAreAnswered :
    (1#8).toNat < 2 ∧ 52 < (53#8).toNat ∧ [1#8, 0#8].length ≤ (2#8).toNat ∧
    ([1#8, 0#8, 0#8][(2#8).toNat]? = some 0#8 ∧ crc8 (2#8 :: [1#8, 0#8, 0#8].take (2#8).toNat) ≠ 0#8) ∧
    30 < (31#8).toNat ∧ 1 < (2#8).toNat ∧ 20 < (21#8).toNat ∧
    (parseFrame [1#8] = none ∧ r0.discards .t = false) ∧
    (parseFrame [1#8] = none ∧ [1#8].head? ≠ some 0#8 ∧ (holdingT 8).discards .a = false) ∧
    (parseFrame [0#8, 7#8] = none ∧ [0#8, 7#8].headD 0#8 = 0#8) ∧
    8 ≤ (holdingT 8).pif.uart.held.length := by decide +kernel

theorem witness_PortTByteReceives :
    r0.pif.uart.rx = none ∧
    (let s : State := { r0 with pif.uart.rx := some [2#8, 25#8] }
     s.pif.uart.rx = some [2#8, 25#8] ∧
      ([2#8, 25#8] ++ [0#8]).length < (([2#8, 25#8] ++ [0#8]).headD 0#8).toNat + 2) ∧
    (let f : Frame := ⟨.identify, none, []⟩
     let s : State := { r0 with pif.uart.rx := some [2#8, 25#8, 0#8] }
     s.pif.uart.rx = some [2#8, 25#8, 0#8] ∧ f.payload.length ≤ 48 ∧
      [2#8, 25#8, 0#8] ++ [crc8 [2#8, 25#8, 0#8]] = f.bytes) ∧
    (∀ n ∈ [7, 8], let s : State := { holdingT n with pif.uart.rx := some [0#8] }
      s.pif.uart.rx = some [0#8] ∧ (([0#8] ++ [9#8]).headD 0#8).toNat + 2 ≤ ([0#8] ++ [9#8]).length ∧
      parseFrame ([0#8] ++ [9#8]) = none ∧ s.pif.uart.held.length = n) ∧
    (let l := [2#8, 31#8, 0#8] ++ [crc8 [2#8, 31#8, 0#8]]
     (l.headD 0#8).toNat + 2 ≤ l.length ∧ parseFrame l = none) := by decide +kernel

theorem witness_LinesCarryFrames :
    (let s : State := { r0 with pif.spi.a.transaction := true }; (s.pif.spi.get .a).transaction = true) ∧
    (let s : State := { holdingT 7 with pif.uart.rx := some [] }
     (s.tick 11000).frameGap = true ∧ s.pif.uart.rx.isSome = true ∧ s.pif.uart.held.length < 8) ∧
    (let s : State := { holdingT 8 with pif.uart.rx := some [] }
     (s.tick 11000).frameGap = true ∧ s.pif.uart.rx.isSome = true ∧ 8 ≤ s.pif.uart.held.length) ∧
    (r0.pif.uart.rx = none ∧ (r0.pif.spi.get .b).transaction = false) ∧
    8 ≤ (holdingT 8).pif.uart.held.length ∧
    (holdingT 1).pif.uart.held = ⟨25#8, .done []⟩ :: [] := by decide +kernel

theorem witness_PortsOfCommands :
    readStage [0#8, 91#8, 0#8, 3#8] = some (.brake 91, 3) ∧
    readStage [1#8, 76#8, 0#8, 3#8] = some (.tyre 76, 3) ∧
    (r0.discards .a = false ∧ permitted .a .calOpen [] = false) ∧
    (r0.discards .t = false ∧ guardOk (some ⟨.supplyLow, false⟩) r0 = true ∧
      readStage [0#8, 92#8, 0#8, 3#8] = none) := by decide +kernel

theorem witness_CommandsTurnedAway :
    (r0.discards .a = false ∧ permitted .a .demand [] = true ∧ guardOk (some ⟨.supplyLow, true⟩) r0 = false) ∧
    (accepted .t .identify none [0#8] r0 = true ∧ [0#8].length ≠ Command.payloadLength .identify) ∧
    (holdingT 8).discards .t = true := by decide +kernel

theorem witness_RecordsAreAnswered :
    (accepted .t .readRecord none [21#8, 0#8, 0#8, 0#8] r0 = true ∧
      (record (r0.tick 0) (21#8).toNat (0#8).toNat).bind (Rec.payload (256 * (0#8).toNat + (0#8).toNat)) ≠ none) ∧
    (accepted .a .readRecord none [25#8, 0#8, 0#8, 0#8] r0 = true ∧
      (record (r0.tick 0) (25#8).toNat (0#8).toNat).bind (Rec.payload (256 * (0#8).toNat + (0#8).toNat)) = none) ∧
    accepted .b .identify none [] r0 = true ∧
    (∀ x ∈ [List.replicate 58 0#8, [1#8]], x.length ≤ 58) ∧
    ((record r0 1 10).isSome = true ∧ (record r0 1 11).isSome = false ∧ (record r0 3 11).isSome = true ∧
      (record r0 19 1).isSome = true ∧ (record r0 22 0).isSome = true ∧ (record r0 23 0).isSome = false) := by
  decide +kernel

theorem witness_EventQueuesAreServed :
    (readMasks [0#8, 15#8, 255#8, 255#8, 0#8, 0#8, 0#8, 1#8] = some (0xFFFFF#20, 1#20) ∧
      accepted .a .subscribeSet none [0#8, 15#8, 255#8, 255#8, 0#8, 0#8, 0#8, 1#8] r0 = true ∧
      accepted .t .subscribeClear none [0#8, 15#8, 255#8, 255#8, 0#8, 0#8, 0#8, 1#8] r0 = true) ∧
    ((15#8).toNat ≤ 15 ∧ ¬(16#8).toNat ≤ 15 ∧
      accepted .a .subscribeSet none [0#8, 16#8, 0#8, 0#8, 0#8, 0#8, 0#8, 0#8] r0 = true ∧
      accepted .b .subscribeClear none [0#8, 0#8, 0#8, 0#8, 1#8, 0#8, 0#8, 0#8] r0 = true) ∧
    (accepted .a .takeEvents none [16#8] r0 = true ∧ accepted .b .peekEvents none [16#8] r0 = true ∧
      (16#8).toNat ≤ 16) ∧
    (accepted .a .takeEvents none [17#8] r0 = true ∧ accepted .b .peekEvents none [17#8] r0 = true ∧
      16 < (17#8).toNat) := by decide +kernel

theorem witness_SnapshotsRun :
    accepted .t .snapshotInterval none [0#8, 99#8] r0 = true ∧
    (let s : State := { r0 with pif.interval := 100, pif.nextSnapshot := some 0 }
     s.pif.nextSnapshot = some 0 ∧ reached (s.tick 0).now 0 = true) := by decide +kernel

theorem witness_PortResetActs :
    (let s : State := { r0 with dar.ctrl.a.fresh := .fresh, pif.window := some ⟨.a, 100⟩ }
     accepted .a .portReset none [] s = true ∧ noCommit s = true ∧ Port.controller .a = some .a) ∧
    (accepted .t .portReset none [] session = true ∧ noCommit session = true) ∧
    (accepted .t .portReset none [] (learning .t1LO .t) = true ∧ noCommit (learning .t1LO .t) = true) := by
  decide +kernel

/-- A store with every section GOOD and the roll function off, so that a reset raises one fault at most. -/
def stored : State :=
  { r0 with cfs.sections :=
      ⟨⟨.good, false, .good (.brake (BrakeSet.factory.write 61 0))⟩, ⟨.good, false, .good (.tyre .factory)⟩,
        ⟨.good, false, .good (.calibration (calFactory true))⟩, ⟨.good, false, .good (.bindings (.all none))⟩⟩ }

theorem witness_JointResetRuns :
    (accepted .a .jointReset none [] r0 = true ∧ Port.controller .a = some .a ∧ r0.pif.window = none) ∧
    (let s : State := { r0 with pif.window := some ⟨.a, 0⟩ }
     accepted .a .jointReset none [] s = true ∧ Port.controller .a = some .a ∧
      s.pif.window = some ⟨.a, 0⟩ ∧ (⟨.a, 0⟩ : JointWindow).port = .a ∧ reached (s.tick 0).now 0 = true) ∧
    (let s : State := { r0 with pif.window := some ⟨.a, 0⟩, cfs.brake := BrakeSet.factory.write 61 0 }
     accepted .b .jointReset none [] s = true ∧ Port.controller .b = some .b ∧
      s.pif.window = some ⟨.a, 0⟩ ∧ (⟨.a, 0⟩ : JointWindow).port ≠ .b ∧ s.ttr.learn.slot = none ∧
      s.flm.first.isSome = true ∧ s.flm.entries.any (fun r => r.pair == .unconfigured) = true ∧
      (afterCommand (.jointReset 0 .b none []) s).faulted .unconfigured = true ∧
      (afterCommand (.jointReset 0 .b none []) s).flm.entries.length < 15) ∧
    (let s : State := { stored with
       cfs.brake := BrakeSet.factory.write 61 0, cfs.unconfigured := false
       pif.window := some ⟨.b, 0⟩, flm.first := none, flm.overrun := true
       ttr.learn.slot := some ⟨.t1LO, .t, 0, 0⟩, lac.timeoutFlag := true }
     accepted .a .jointReset none [] s = true ∧ Port.controller .a = some .a ∧
      s.pif.window = some ⟨.b, 0⟩ ∧ (⟨.b, 0⟩ : JointWindow).port ≠ .a ∧
      s.ttr.learn.slot = some ⟨.t1LO, .t, 0, 0⟩ ∧ s.flm.first = none ∧ s.flm.overrun = true ∧
      s.lac.timeoutFlag = true ∧ s.flm.entries.any (fun r => r.pair == .liftTimeout) = false ∧
      (afterCommand (.jointReset 0 .a none []) s).flm.entries.length < 15) := by decide +kernel

theorem witness_FaultRecordsAreEmptied :
    (accepted .a .clearFirst none [] r0 = true ∧ r0.faulted .unconfigured = true ∧ r0.faulted .supplyLow = false) ∧
    (r0.discards .t = false ∧ guardOk none r0 = true ∧ r0.flm.overrun = false) := by decide +kernel

/-- A next-fault list of `n` entries, the one at `k` inactive, and none of SUPPLY_LOW. -/
def listed (n k : Nat) : State :=
  { r0 with flm.entries := (List.range n).map fun i =>
      ⟨if i = 0 then .rollUnavailable else if i = 1 then .unconfigured else .inputRange (InputId.list.getD (i - 2) .pcl),
        0, 0, 255, i != k, .warn⟩ }

/-- RaiseAndClear: an entry updated in place at a count of 255, lists of 14 and of 15, with the oldest inactive
entry at either end, and with none; a clear that leaves a fault of its severity. -/
theorem witness_RaiseTakesItsEntry :
    (let s : State := { listed 15 0 with flm.active := [] }
     s.faulted .rollUnavailable = false ∧ ∃ r ∈ s.flm.entries, r.pair = .rollUnavailable ∧ r.count = 255) ∧
    (∀ n ∈ [14, 15], ∀ k ∈ [0, 14, 15], let s := listed n k
      s.faulted .supplyLow = false ∧ (∀ r ∈ s.flm.entries, r.pair ≠ .supplyLow) ∧ s.flm.entries.length = n) ∧
    ((listed 15 0).flm.entries = [] ++ (listed 15 0).flm.entries.headD ⟨.supplyLow, 0, 0, 0, true, .note⟩ ::
      (listed 15 0).flm.entries.drop 1) ∧
    (∀ e ∈ (listed 15 14).flm.entries.take 14, e.active = true) ∧
    (∀ e ∈ (listed 15 15).flm.entries, e.active = true) ∧
    ((raise .supplyLow (listed 15 14)).flm.overrun = false ∧ (raise .supplyLow (listed 15 15)).flm.overrun = true ∧
      (raise .supplyLow (listed 14 15)).flm.entries.length = 15) ∧
    (r0.faulted .rollUnavailable = true ∧ ∃ a ∈ r0.flm.active, a.pair ≠ .rollUnavailable ∧ a.severity ≠ .note) := by
  decide +kernel

theorem witness_RaiseAndClear :
    r0.faulted .rollUnavailable = true ∧ (r0.faulted .supplyLow = false ∧ r0.flm.first ≠ none) ∧
    (let s : State := { r0 with flm.first := none }; s.faulted .supplyLow = false ∧ s.flm.first = none) ∧
    FaultPair.supplyLow ≠ .unconfigured := by decide +kernel

theorem witness_CommitBrakeBegins :
    (accepted .a .commitBrake none [] (committed false r0) = true ∧ (committed false r0).cfs.commit.pending = true) ∧
    (let s : State := { r0 with cfs.stagedBrake := r0.cfs.stagedBrake.write 54 (r0.cfs.stagedBrake.value 53) }
     accepted .a .commitBrake none [] s = true ∧ s.cfs.commit.pending = false ∧
      ¬s.cfs.stagedBrake.value 54 < s.cfs.stagedBrake.value 53) ∧
    (let q := r0.cfs.stagedBrake
     accepted .a .commitBrake none [] r0 = true ∧ r0.cfs.commit.pending = false ∧ q.value 54 < q.value 53 ∧
      q.value 26 ≥ q.value 25 + 1000 ∧ q.value 20 ≥ q.value 19 + 1000 ∧ q.value 39 ≥ q.value 38 + 1000 ∧
      q.value 41 ≥ q.value 40 + 1000 ∧ q.value 63 ≤ q.value 62) := by decide +kernel

theorem witness_StageWritesOneParameter :
    (readStage [0#8, 49#8, 0#8, 2#8] = some (.brake 49, 2) ∧ brakeInRange 49 2 = true ∧
      accepted .a .stage none [0#8, 49#8, 0#8, 2#8] r0 = true ∧ r0.cfs.commit.pending = false ∧
      accepted .a .stage none [0#8, 49#8, 0#8, 2#8] (committed false r0) = true ∧
      (committed false r0).cfs.commit.pending = true) ∧
    (readStage [0#8, 49#8, 0#8, 1#8] = some (.brake 49, 1) ∧ brakeInRange 49 1 = false ∧
      accepted .a .stage none [0#8, 49#8, 0#8, 1#8] r0 = true) ∧
    (accepted .t .stage none [1#8, 0#8, 1#8, 43#8] r0 = true ∧
      readStage [1#8, 0#8, 1#8, 43#8] = some (.tyre 0, 299) ∧ tyreInRange r0.cfs.stagedTyre 0 299 = false) ∧
    (accepted .t .stage none [1#8, 14#8, 0#8, 4#8] r0 = true ∧
      readStage [1#8, 14#8, 0#8, 4#8] = some (.tyre 14, 4) ∧ tyreInRange r0.cfs.stagedTyre 14 4 = true ∧
      profileFits (r0.cfs.stagedTyre.write 14 4) 14 = false) ∧
    (accepted .a .stage none [1#8, 0#8, 1#8, 44#8] r0 = true ∧
      readStage [1#8, 0#8, 1#8, 44#8] = some (.tyre 0, 300) ∧ tyreInRange r0.cfs.stagedTyre 0 300 = true ∧
      profileFits (r0.cfs.stagedTyre.write 0 300) 0 = true) := by decide +kernel

theorem witness_CommitIsConfirmedOrEnds :
    (accepted .b .confirmBrake none [0#8, 0#8] r0 = true ∧ r0.cfs.commit.pending = false) ∧
    (accepted .b .confirmBrake none [0x12#8, 0x35#8] (committed true r0) = true ∧
      (committed true r0).cfs.commit.pending = true ∧
      (committed true r0).cfs.commit.digest ≠ some (BitVec.ofNat 16 (256 * (0x12#8).toNat + (0x35#8).toNat))) ∧
    (accepted .b .confirmBrake none [0x12#8, 0x34#8] (committed false r0) = true ∧
      (committed false r0).cfs.commit.digest = some (BitVec.ofNat 16 (256 * (0x12#8).toNat + (0x34#8).toNat)) ∧
      ¬((committed false r0).standstill = true ∧ (committed false r0).dar.e.val = 0)) ∧
    (accepted .b .confirmBrake none [0x12#8, 0x34#8] (committed false rested) = true ∧
      (committed false rested).cfs.commit.digest = some (BitVec.ofNat 16 (256 * (0x12#8).toNat + (0x34#8).toNat)) ∧
      (committed false rested).standstill = true ∧ (committed false rested).dar.e.val = 0) ∧
    accepted .a .discardBrake none [] (committed true r0) = true ∧
    ((committed true r0).cfs.commit.deadline = some 0 ∧ reached ((committed true r0).tick 0).now 0 = true) := by
  decide +kernel

theorem witness_CommitTyreApplies :
    (let s : State := { r0 with cfs.stagedTyre := r0.cfs.stagedTyre.write 4 (r0.cfs.stagedTyre.value 5) }
     accepted .t .commitTyre none [] s = true ∧ s.cfs.stagedTyre.lowWarnFrac ≤ s.cfs.stagedTyre.lowCritFrac) ∧
    (accepted .a .commitTyre none [] r0 = true ∧ r0.cfs.stagedTyre.lowCritFrac < r0.cfs.stagedTyre.lowWarnFrac ∧
      r0.cfs.stagedTyre.missingTimeout = r0.cfs.tyre.missingTimeout) ∧
    (let s : State := withTyre .t1LO (fun r => { r with bound := some 7, state := .live, deadlineBase := some 0 })
       { r0 with cfs.stagedTyre := r0.cfs.stagedTyre.write 8 120 }
     accepted .a .commitTyre none [] s = true ∧ s.cfs.stagedTyre.lowCritFrac < s.cfs.stagedTyre.lowWarnFrac ∧
      s.cfs.stagedTyre.missingTimeout ≠ s.cfs.tyre.missingTimeout ∧ (s.tyre .t1LO).deadlineBase = some 0) ∧
    (let s : State := { learning .t3RO .t with cfs.stagedTyre := r0.cfs.stagedTyre.write 9 30 }
     accepted .t .commitTyre none [] s = true ∧ s.cfs.stagedTyre.lowCritFrac < s.cfs.stagedTyre.lowWarnFrac ∧
      s.ttr.learn.slot = some ⟨.t3RO, .t, 0, 0⟩ ∧ s.cfs.stagedTyre.learnTimeout ≠ s.cfs.tyre.learnTimeout ∧
      reached (s.tick 30000000).now (after 0 s.cfs.stagedTyre.learnTimeout) = true ∧
      reached (s.tick 29999999).now (after 0 s.cfs.stagedTyre.learnTimeout) = false) := by decide +kernel

theorem witness_StoreWriteEnds :
    let s : State := { r0 with cfs.write := some ⟨.bindings, r0.content .bindings⟩ }
    s.cfs.write = some ⟨.bindings, r0.content .bindings⟩ := by decide +kernel

/-- A part at rest with a staged set that differs from the active one. -/
def otherStaged : State := { rested with cfs.stagedBrake := rested.cfs.stagedBrake.write 49 11 }

/-- Its commit, confirmed. -/
def otherCommit : State :=
  { otherStaged with cfs.commit := ⟨true, true, some otherStaged.cfs.stagedBrake.digest, some 60000, .none, none⟩ }

theorem otherStaged_inv : Inv otherStaged := inv_of _ (by decide +kernel)

theorem otherCommit_inv : Inv otherCommit :=
  { otherStaged_inv with
    config :=
      have ⟨a, b, c, d, e, f, _, _, g, i⟩ := otherStaged_inv.config
      ⟨a, b, c, d, e, f, fun _ => ⟨by decide +kernel, rfl, rfl⟩, fun _ => rfl, g, i⟩ }

theorem witness_BrakeSetChangesByCommit :
    ∃ t, exec (.analogSample 0 .pcl 0 false) otherCommit = .next t ∧
      (Instr.analogSample 0 .pcl 0 false).delay.isSome = true ∧
      Inv otherCommit ∧ t.cfs.brake ≠ otherCommit.cfs.brake :=
  ⟨_, rfl, by decide +kernel, otherCommit_inv, by decide +kernel⟩

/-- A demand record, FRESH since the reset. -/
def freshCtrl (v : Int) : Ctrl := ⟨some v, some 0, .fresh, some 0, false, false⟩

theorem witness_DemandIsArbitrated :
    (accepted .a .demand none [4#8, 0#8] (inMode .electric r0) = true ∧ Port.controller .a = some .a ∧
      noCommit (inMode .electric r0) = true ∧ (inMode .electric r0).dar.mode = .electric) ∧
    (accepted .b .demand none [0#8, 0#8] (inMode .holding r0) = true ∧ Port.controller .b = some .b ∧
      noCommit (inMode .holding r0) = true ∧ (inMode .holding r0).dar.mode = .holding) ∧
    ((freshCtrl 400).fresh = .fresh ∧ (freshCtrl 430).demand = some 430 ∧ Ctrl.reset.fresh ≠ .fresh) := by
  decide +kernel

theorem witness_ResumeEndsInElectric :
    (accepted .a .resumeElectric none [] r0 = true ∧ Port.controller .a = some .a ∧ r0.dar.mode ≠ .sensed) ∧
    (accepted .b .resumeElectric none [] rested = true ∧ Port.controller .b = some .b ∧ rested.dar.mode = .sensed) ∧
    (let s : State := { rested with dar.resume := some ⟨0, 0⟩, dar.agreed := some 100 }
     s.dar.mode = .sensed ∧ s.dar.resume = some ⟨0, 0⟩ ∧ reached (s.tick 0).now 0 = true ∧
      s.dar.agreed = some 100 ∧ noCommit s = true) := by decide +kernel

theorem witness_ClearVoteIsRecorded :
    let allowed := fun (s : State) => s.dar.mode = .passthrough ∧ s.faulted .supplyLow = false ∧
      (s.reading .pcl).mark ≠ .lost ∧ s.dar.startWait = false ∧ s.cfs.brakeGood = true
    let s := inMode .passthrough rested
    (accepted .a .clearPassthrough none [] r0 = true ∧ Port.controller .a = some .a ∧ noCommit r0 = true ∧
      ¬allowed r0) ∧
    (accepted .a .clearPassthrough none [] s = true ∧ noCommit s = true ∧ allowed s ∧
      (s.ctrl .a).clearVote = false ∧ (s.ctrl .b).clearVote = false) ∧
    (let u : State := { s with dar.ctrl.b.clearVote := true }
     accepted .a .clearPassthrough none [] u = true ∧ accepted .b .clearPassthrough none [] u = true ∧
      noCommit u = true ∧ allowed u ∧ (u.ctrl .a).clearVote = false ∧ (u.ctrl .b).clearVote = true) := by
  decide +kernel

theorem witness_DemandTimersRun :
    (let s : State := { r0 with dar.ctrl.a := freshCtrl 100 }
     (s.ctrl .a).fresh = .fresh ∧ (s.ctrl .a).deadline = some 0 ∧ reached (s.tick 0).now 0 = true ∧
      noCommit s = true) ∧
    (let s : State := { inMode .holding r0 with dar.holdDeadline := some 0 }
     s.dar.mode = .holding ∧ s.dar.holdDeadline = some 0 ∧ reached (s.tick 0).now 0 = true ∧
      noCommit s = true ∧ (s.ctrl .a).fresh ≠ .fresh ∧ (s.ctrl .b).fresh ≠ .fresh) ∧
    (let s : State := { inMode .holding r0 with
       dar.holdDeadline := some 0, dar.ctrl.a := freshCtrl 100, dar.ctrl.b := freshCtrl 900 }
     s.dar.mode = .holding ∧ s.dar.holdDeadline = some 0 ∧ noCommit s = true ∧ (s.ctrl .a).fresh = .fresh ∧
      (s.ctrl .b).fresh = .fresh) ∧
    (let s : State := { r0 with dar.mismatch := some 0 }
     s.dar.mismatch = some 0 ∧ 300 ≤ since (s.tick 300000).now 0) ∧
    (let s : State := { r0 with dar.airLow := some 0 }
     s.dar.airLow = some 0 ∧ 1000 ≤ since (s.tick 1000000).now 0) := by decide +kernel

/-- PCL in HOLD at 0, its deadline at the present time. -/
def pclHeld (s : State) : State :=
  let s := withInput .pcl .hold 0 s
  { s.setInput .pcl { s.input .pcl with cause := .range, holdDeadline := some 0 } with dar.e := ⟨0, .degraded⟩ }

theorem pclHeld_cfs (s : State) : (pclHeld s).cfs = s.cfs := rfl

theorem pclHeld_inv : Inv (pclHeld rested) ∧ Inv (pclHeld up) ∧ Inv (pclHeld probing) :=
  ⟨inv_like rested_inv rfl (by decide +kernel),
    inv_like rested_inv ((pclHeld_cfs _).trans (by simp [up, raised])) (by decide +kernel),
    inv_like rested_inv ((pclHeld_cfs _).trans (by simp [probing])) (by decide +kernel)⟩

/-- ControlLineMovesMode, the loss: PCL's hold has run out at rest, with the axle UP, and in PROBE; and its bad run in
SETTLING. -/
theorem witness_ControlLineMovesMode_loss :
    (∀ s ∈ [pclHeld rested, pclHeld up, pclHeld probing], Inv s ∧ noCommit s = true ∧ s.dar.mode = .sensed ∧
      (s.input .pcl).state = .hold ∧ (s.input .pcl).holdDeadline = some 0 ∧ reached (s.tick 0).now 0 = true) ∧
    ((pclHeld up).lac.state = .up ∧ (pclHeld probing).rsu.state = .probe) ∧
    (let s : State := { r0.setInput .pcl { r0.input .pcl with holdDeadline := some 0 } with dar.startWait := true }
     noCommit s = true ∧ s.dar.mode = .passthrough ∧ (s.input .pcl).state = .settling ∧
      (s.input .pcl).holdDeadline = some 0 ∧ reached (s.tick 0).now 0 = true) ∧
    (let s := pclHeld (inMode .passthrough rested)
     noCommit s = true ∧ s.dar.mode = .passthrough ∧ s.dar.startWait = false ∧ (s.input .pcl).state = .hold ∧
      (s.input .pcl).holdDeadline = some 0 ∧ reached (s.tick 0).now 0 = true) := by
  obtain ⟨a, b, c⟩ := pclHeld_inv
  refine ⟨?_, by decide +kernel, by decide +kernel, by decide +kernel⟩
  intro s h
  simp only [List.mem_cons, List.not_mem_nil, or_false] at h
  rcases h with rfl | rfl | rfl
  · exact ⟨a, by decide +kernel⟩
  · exact ⟨b, by decide +kernel⟩
  · exact ⟨c, by decide +kernel⟩

/-- The reset state under the start-up wait, PCL settled at 0. -/
def waiting : State := { withInput .pcl .valid 0 r0 with dar.startWait := true }

/-- The same with PCL LOST and a good run begun at the reset. -/
def waitingLost : State :=
  { r0.setInput .pcl { r0.input .pcl with state := .lost, runStart := some 0 } with dar.startWait := true }

/-- ControlLineMovesMode, the samples: in SENSED, under the start-up wait (good samples at both ends of the margin, the
last of a good run, and a bad one), and without the wait. -/
theorem witness_ControlLineMovesMode_samples :
    (noCommit rested = true ∧ rested.dar.mode = .sensed ∧ (rested.input .pcl).state = .valid) ∧
    (noCommit waiting = true ∧ waiting.dar.mode = .passthrough ∧ waiting.dar.startWait = true ∧
      waiting.faulted .supplyLow = false ∧ turnsValid 0 .pcl (-40) waiting ∧ turnsValid 0 .pcl 1040 waiting ∧
      (waiting.input .pcl).state = .valid) ∧
    (noCommit waitingLost = true ∧ waitingLost.dar.mode = .passthrough ∧ waitingLost.dar.startWait = true ∧
      waitingLost.faulted .supplyLow = false ∧ turnsValid 100000 .pcl 0 waitingLost) ∧
    (noCommit r0 = true ∧ r0.dar.mode = .passthrough ∧ r0.dar.startWait = false) :=
  ⟨by decide +kernel,
    ⟨by decide +kernel, by decide +kernel, by decide +kernel, by decide +kernel, ⟨by decide +kernel, .inl (by decide +kernel)⟩,
      ⟨by decide +kernel, .inl (by decide +kernel)⟩, by decide +kernel⟩,
    ⟨by decide +kernel, by decide +kernel, by decide +kernel, by decide +kernel,
      ⟨by decide +kernel, .inr (.inr ⟨.inl (by decide +kernel), 0, by decide +kernel, by decide +kernel⟩)⟩⟩,
    by decide +kernel⟩

/-- What a computation reads for a demand and a load. -/
def inputsFor (e load : Int) : SetpointInputs := ⟨false, ⟨e, .valid⟩, ⟨load, .valid⟩, false, 1024, 0, ⟨800, .valid⟩⟩

theorem witness_SetpointStages :
    let p := BrakeSet.factory
    ((inputsFor 19 0).inhibited = false ∧ (inputsFor 19 0).e.val < p.crack) ∧
    ((inputsFor 400 6000).load.mark ≠ .lost ∧ (inputsFor 400 6000).calDefaulted = false ∧
      p.mainLoadEmpty < p.mainLoadLaden ∧ p.liftLoadEmpty < p.liftLoadLaden ∧
      (inputsFor 400 6000).load.val ≤ p.mainLoadEmpty ∧ p.mainLoadLaden ≤ (inputsFor 400 18000).load.val) ∧
    p.gEmpty ≤ 1024 ∧
    ((inputsFor 20 0).inhibited = false ∧ p.crack ≤ (inputsFor 20 0).e.val ∧ 0 ≤ (inputsFor 20 0).floor ∧
      0 ≤ p.pMax .ml ∧ (inputsFor 20 0).psr.mark ≠ .lost) ∧
    ({ inputsFor 20 0 with load := ⟨0, .lost⟩ }.load.mark = .lost ∧
      { inputsFor 20 0 with calDefaulted := true }.calDefaulted = true) ∧
    { inputsFor 20 0 with inhibited := true }.inhibited = true := by decide +kernel

/-- ML regulates at 300 kPa. -/
def regulating : State :=
  withChan .ml (fun r => { r with state := .regulate, action := .hold, trackSince := some 0 })
    (withInput .pdML .valid 300 rested)

theorem regulating_lift : LiftOk regulating := ⟨by decide +kernel, by decide +kernel, by decide +kernel⟩

theorem witness_RegulationDecides :
    (∃ t, exec (.analogSample 0 (pdOf .ml) 1040 false) regulating = .next t ∧
      (regulating.chan .ml).state = .regulate ∧ LiftOk regulating ∧ (t.input (pdOf .ml)).state = .valid) ∧
    (∃ t, exec (.analogSample 0 (pdOf .ml) 1041 false) regulating = .next t ∧
      (regulating.chan .ml).state = .regulate ∧ LiftOk regulating ∧ (t.input (pdOf .ml)).state = .hold) :=
  ⟨⟨_, rfl, by decide +kernel, regulating_lift, by decide +kernel⟩,
    ⟨_, rfl, by decide +kernel, regulating_lift, by decide +kernel⟩⟩

/-- A channel in PASSTHROUGH with a latched cause, its PD input VALID. -/
def latchedAt (c : Channel) (s : State) : State :=
  withInput (pdOf c) .valid 0 (withChan c (fun r => { r with latched := ⟨false, true, false⟩ }) s)

theorem witness_ChannelIsRestored :
    (accepted .a .channelRestore none [0#8] r0 = true ∧ readChannel [0#8] = some .ml ∧
      ¬((r0.input (pdOf .ml)).state = .valid ∧ ∀ f, (r0.coil (.of .ml f)).status = .ok)) ∧
    (accepted .a .channelRestore none [0#8] regulating = true ∧
      ((regulating.input (pdOf .ml)).state = .valid ∧ ∀ f, (regulating.coil (.of .ml f)).status = .ok) ∧
      (regulating.chan .ml).latched.any = false) ∧
    (let s := latchedAt .lr up
     accepted .a .channelRestore none [3#8] s = true ∧ readChannel [3#8] = some .lr ∧
      ((s.input (pdOf .lr)).state = .valid ∧ ∀ f, (s.coil (.of .lr f)).status = .ok) ∧
      (s.chan .lr).latched.any = true ∧ (s.chan .lr).state = .passthrough ∧ s.dar.mode ≠ .passthrough ∧
      s.chanLifted .lr = true) ∧
    (let s := latchedAt .lr rested
     ((s.input (pdOf .lr)).state = .valid ∧ ∀ f, (s.coil (.of .lr f)).status = .ok) ∧
      (s.chan .lr).latched.any = true ∧ (s.chan .lr).state = .passthrough ∧ s.dar.mode ≠ .passthrough ∧
      s.chanLifted .lr = false) ∧
    (let s := latchedAt .lr r0
     ((s.input (pdOf .lr)).state = .valid ∧ ∀ f, (s.coil (.of .lr f)).status = .ok) ∧
      (s.chan .lr).latched.any = true ∧ (s.chan .lr).state = .passthrough ∧ s.dar.mode = .passthrough) := by
  refine ⟨⟨by decide +kernel, by decide +kernel, fun h => absurd h.1 (by decide +kernel)⟩,
    ⟨by decide +kernel, ⟨by decide +kernel, by intro f; cases f <;> decide +kernel⟩, by decide +kernel⟩,
    ⟨by decide +kernel, by decide +kernel, ⟨by decide +kernel, by intro f; cases f <;> decide +kernel⟩,
      by decide +kernel⟩,
    ⟨⟨by decide +kernel, by intro f; cases f <;> decide +kernel⟩, by decide +kernel⟩,
    ⟨⟨by decide +kernel, by intro f; cases f <;> decide +kernel⟩, by decide +kernel⟩⟩

/-- LR in PASSTHROUGH with a latched cause, E at 400, its record's setpoint at `old` and its pressure at `v`. -/
def restoring (old v : Int) : State :=
  withInput .pdLR .valid v (withInput .pcl .valid 400
    (withChan .lr (fun r => { r with sp := { r.sp with value := old } })
      (latchedAt .lr { rested with dar.e := ⟨400, .valid⟩ })))

/-- ChannelIsRestored: a new setpoint at the edge of the band, past it, on the other side of the held pressure, and an
old one at the edge of the band; a channel index of 4. -/
theorem witness_RestoreConverges :
    (accepted .a .channelRestore none [4#8] r0 = true ∧ 3 < (4#8).toNat ∧ readChannel [3#8] = some .lr) ∧
    (∀ q ∈ [(0, 10), (0, 11), (0, 200), (0, 390), (0, 389), (210, 200), (211, 200)],
      let s := restoring q.1 q.2
      accepted .a .channelRestore none [3#8] s = true ∧ (s.input (pdOf .lr)).state = .valid ∧
        (s.chan .lr).latched.any = true ∧ (s.chan .lr).state = .passthrough ∧ s.dar.mode ≠ .passthrough ∧
        s.chanLifted .lr = false ∧ 0 ≤ s.brake.regBand ∧
        ∀ f ∈ [CoilFn.inlet, .exhaust, .backup], (s.coil (.of .lr f)).status = .ok) := by
  decide +kernel

theorem witness_ReferenceIsEvaluated :
    (let s : State := { r0 with icu.wheels.w2L.state := .valid, icu.wheels.w2L.published := 50 }
     noCommit s = true ∧ s.candidate = some 50 ∧ (s.wheel .w2L).state = .valid ∧ s.lifted .w2L = false) ∧
    (noCommit r0 = true ∧ r0.candidate = none ∧ r0.chc.ref.mark = .lost) ∧
    (let s : State := { r0 with chc.ref := ⟨60, .degraded⟩, chc.lastCandidate := some 0 }
     noCommit s = true ∧ s.candidate = none ∧ s.chc.ref.mark ≠ .lost ∧ s.chc.lastCandidate = some 0 ∧
      since (s.tick 499999).now 0 < 500 ∧ 500 ≤ since (s.tick 500000).now 0) := by decide +kernel

/-- The wheel ends of MR without a VALID mark, W2L at a speed. -/
def speedless (v : Int) : State :=
  let s := wheeled v v rested
  (s.setWheel .w2R { s.wheel .w2R with state := .hold }).setWheel .w3R { s.wheel .w3R with state := .lost }

/-- ReferenceIsEvaluated: MR at a reference speed of 50 and of 49, ML with VALID wheel ends, and LL lifted. -/
theorem witness_UnavailableIsJudged :
    let mr := fun t : State => t.faulted (.antilockUnavailable .mr)
    let t := afterCommand (.referenceEvaluation 0) (speedless 50)
    let u := afterCommand (.referenceEvaluation 0) (speedless 49)
    (noCommit (speedless 50) = true ∧ (speedless 50).lifted .w2R = false ∧ (speedless 50).lifted .w3R = false ∧
      t.chc.ref.mark ≠ .lost ∧ t.chc.ref.val = 50 ∧ mr t = true) ∧
    (u.chc.ref.val = 49 ∧ mr u = false) ∧
    ((speedless 50).wheel .w2L).state = .valid ∧ t.faulted (.antilockUnavailable .ml) = false ∧
    up.lifted .w1L = true := by decide +kernel

/-- ML in ANTILOCK, its measured pressure 300 kPa, P_lock 200 kPa and its deadline at the present time. -/
def antilocked (ph : Phase) (sp ramp : Int) : State :=
  withChan .ml (fun r => { r with
      state := .antilock, phase := ph, pLock := some 200, ramp := some ramp, phaseDeadline := some 0,
      sp := { r.sp with value := sp } }) (withInput .pdML .valid 200 rested)

/-- Under way with E at 400 and ML in REGULATE at 200 kPa, then moved on by the channel's own operations. -/
def braked (v slow : Int) (f : State → State) : State :=
  computeAll Channel.list (f (computeAll Channel.list (enterRegulate .ml
    (publishE (withInput .pcl .valid 400 (withInput .pdML .valid 200 (wheeled v slow rested)))))))

def inDump : State → State := enterDump true .ml
def inHold : State → State := fun s => enterAntilockHold .ml (inDump s)

theorem braked_cfs (v slow : Int) (f : State → State) (hf : ∀ s, (f s).cfs = s.cfs) :
    (braked v slow f).cfs = rested.cfs := by
  simp [braked, wheeled, hf]

theorem braked_inv :
    Inv (braked 300 100 id) ∧ Inv (braked 300 300 id) ∧ Inv (braked 300 100 (enterConverge .ml)) ∧
    Inv (braked 49 49 inDump) ∧ Inv (braked 300 300 inDump) ∧ Inv (braked 300 100 inDump) ∧
    Inv (braked 300 100 inHold) ∧ Inv (braked 300 300 inHold) := by
  and_intros <;>
    exact inv_like rested_inv (braked_cfs _ _ _ fun s => by simp [inDump, inHold]) (by decide +kernel)

/-- At an evaluation of `s` that leaves the roll state, ML has a slip. -/
def slips (s : State) (ok : Int → Bool) : Bool :=
  let t := afterCommand (.referenceEvaluation 0) s
  noCommit s && t.rsu.state == s.rsu.state && ok (t.chan .ml).slip

/-- EvaluationJudgesAntilock: entry from REGULATE and from CONVERGE and none at a small slip, the end below 50,
and the four moves within an episode. -/
theorem witness_AntilockIsJudged :
    (slips (braked 300 100 id) (150 ≤ ·) ∧ ((braked 300 100 id).chan .ml).state = .regulate ∧
      0 < ((braked 300 100 id).chan .ml).sp.value) ∧
    slips (braked 300 300 id) (· < 150) ∧
    (slips (braked 300 100 (enterConverge .ml)) (150 ≤ ·) ∧
      ((braked 300 100 (enterConverge .ml)).chan .ml).state = .converge) ∧
    (slips (braked 49 49 inDump) (0 ≤ ·) ∧ ((braked 49 49 inDump).chan .ml).state = .antilock ∧
      (afterCommand (.referenceEvaluation 0) (braked 49 49 inDump)).chc.ref.val < 50) ∧
    (slips (braked 300 300 inDump) (· ≤ 80) ∧ ((braked 300 300 inDump).chan .ml).phase = .dump ∧
      ((braked 300 300 inDump).measured .ml).val - 10 ≤ ((braked 300 300 inDump).chan .ml).sp.value) ∧
    (slips (braked 300 100 inDump) (80 < ·) ∧ ((braked 300 100 inDump).chan .ml).phase = .dump) ∧
    (slips (braked 300 100 inHold) (150 ≤ ·) ∧ ((braked 300 100 inHold).chan .ml).phase = .hold) ∧
    (slips (braked 300 300 inHold) (· < 150) ∧ ((braked 300 300 inHold).chan .ml).phase = .hold) := by
  decide +kernel

/-- What R128 ends an episode of ML for, with the pressure measured in `t`. -/
abbrev ends (s t : State) : Prop :=
  (s.chan .ml).sp.value = 0 ∨ s.chc.ref.mark = .lost ∨ s.chc.ref.val < 50 ∨
    (s.chan .ml).sp.value < (t.measured .ml).val - s.brake.regBand

/-- PressureEndsAntilock: a pressure above and one below the setpoint, and a reapply that reads a VALID and a
DEGRADED pressure. -/
theorem witness_PressureEndsAntilock :
    let s := braked 300 100 inDump
    let u := braked 300 100 fun s => enterReapply .ml (withInput .pdML .valid 150 (inHold s))
    ((s.chan .ml).state = .antilock ∧ s.lowerTrigger = false ∧
      ends s (afterCommand (.analogSample 0 .pdML 411 false) s) ∧
      ¬ends s (afterCommand (.analogSample 0 .pdML 410 false) s)) ∧
    ((u.chan .ml).state = .antilock ∧ (u.chan .ml).phase = .reapply ∧ (u.chan .ml).ramp = some 150 ∧
      ((afterCommand (.analogSample 0 .pdML 100 false) u).measured .ml).mark = .valid ∧
      ((afterCommand (.analogSample 0 .pdML 100 true) u).measured .ml).mark = .degraded) ∧
    (ends (braked 49 49 inDump) (braked 49 49 inDump) ∧ ¬ends s s) := by decide +kernel

/-- Under way in SENSED with both resume votes, the window's end at the present time, ML moved on by `f`. -/
def resumeDue (f : State → State) : State :=
  let k : Ctrl := ⟨some 400, some 0, .fresh, some 0, true, false⟩
  let s := braked 300 300 f
  { s with dar := { s.dar with
      ctrl := ⟨k, k⟩, agree := true, agreed := some 400, lastAgreed := 400, resume := some ⟨0, 0⟩ } }

/-- ML's pressure at the edge of the band below its setpoint, and past it. -/
def near (v : Int) : State → State := fun s => enterRegulate .ml (withInput .pdML .valid v s)

theorem resumeDue_cfs (f : State → State) (hf : ∀ s, (f s).cfs = s.cfs) : (resumeDue f).cfs = rested.cfs := by
  rw [← braked_cfs 300 300 f hf]
  rfl

theorem resumeDue_inv :
    Inv (resumeDue (near 390)) ∧ Inv (resumeDue (near 389)) ∧ Inv (resumeDue (enterConverge .ml)) ∧
    Inv (resumeDue inDump) ∧ Inv (resumeDue (enterSafeHold .ml)) := by
  and_intros <;>
    exact inv_like rested_inv
      (resumeDue_cfs _ fun s => by simp [inDump, near])
      (by decide +kernel)

/-- ResumeEndsInElectric: the states a request moves and one it leaves, a setpoint at the edge of the band and past it. -/
theorem witness_ResumeConverges :
    (∀ f ∈ [near 390, near 389, enterConverge .ml, inDump, enterSafeHold .ml], let s := resumeDue f
      noCommit s = true ∧ s.dar.mode = .sensed ∧ s.dar.resume = some ⟨0, 0⟩ ∧ reached (s.tick 0).now 0 = true) ∧
    ((resumeDue (near 390)).chan .ml).state = .regulate ∧
    ((resumeDue (enterConverge .ml)).chan .ml).state = .converge ∧
    ((resumeDue inDump).chan .ml).state = .antilock ∧
    ((resumeDue (enterSafeHold .ml)).chan .ml).state = .safeHold ∧
    (let after := fun f => ((afterCommand (.resumeWindowComplete 0) (resumeDue f)).chan .ml)
     (after (near 390)).state = .regulate ∧
      [near 389, enterConverge .ml, inDump].all fun f => (after f).state == .converge && (after f).side == some .above) :=
  by decide +kernel

theorem witness_AntilockPhasesRun :
    (let s := antilocked .dump 400 0
     (s.chan .ml).state = .antilock ∧ (s.chan .ml).phaseDeadline = some 0 ∧ reached (s.tick 0).now 0 = true ∧
      (s.chan .ml).pLock = some 200 ∧ (s.chan .ml).phase = .dump) ∧
    (let s := antilocked .hold 400 0
     (s.chan .ml).phase = .hold ∧ (s.measured .ml).val = min (s.chan .ml).sp.value 200) ∧
    (let s := antilocked .hold 150 0
     (s.chan .ml).phase = .hold ∧ (s.measured .ml).val ≠ min (s.chan .ml).sp.value 200) ∧
    (let s := antilocked .reapply 400 185
     (s.chan .ml).phase = .reapply ∧ (s.chan .ml).ramp = some 185 ∧
      min (s.chan .ml).sp.value 200 ≤ 185 + s.brake.reapplyStep) ∧
    (let s := antilocked .reapply 400 184
     (s.chan .ml).ramp = some 184 ∧ 184 + s.brake.reapplyStep < min (s.chan .ml).sp.value 200) := by
  decide +kernel

/-- LR in SAFE_HOLD, its PD input back and its setpoint at 300. -/
def safeHeld : State :=
  withChan .lr (fun r => { r with
    state := .safeHold, action := .hold, held := some 250, holdDeadline := some 5000, sp := { r.sp with value := 300 } })
    (withInput .pdLR .valid 250 rested)

/-- LR in CONVERGE at 250 below or above its setpoint. -/
def converging (side : ConvSide) (sp : Int) : State :=
  withChan .lr (fun r => { r with
    state := .converge, action := .hold, held := some 250, holdDeadline := some 5000, side := some side
    sp := { r.sp with value := sp } }) (withInput .pdLR .valid 250 rested)

/-- ChannelTimersRun: a sample that recovers SAFE_HOLD at the edge of the band and past it and one that does
not; a deviation at the tolerance and past it, and a DEGRADED pressure; in CONVERGE a setpoint at the edge of the band
on either side, past it on the same side, and on the other side; a computation that publishes and one that does not. -/
theorem witness_PublicationsReachChannels :
    let lr := fun (x : Int) (o : Bool) => afterCommand (.analogSample 0 .pdLR x o) safeHeld
    let ml := fun (x : Int) (o : Bool) => afterCommand (.analogSample 0 .pdML x o) regulating
    ((safeHeld.chan .lr).state = .safeHold ∧ safeHeld.lowerTrigger = false ∧
      ((lr 290 false).input .pdLR).state = .valid ∧ ((lr 290 false).chan .lr).state = .regulate ∧
      ((lr 289 false).input .pdLR).state = .valid ∧ ((lr 289 false).chan .lr).state = .converge ∧
      ((lr 290 true).input .pdLR).state ≠ .valid) ∧
    ((regulating.chan .ml).state = .regulate ∧ regulating.lowerTrigger = false ∧
      ((ml 60 false).measured .ml).mark = .valid ∧ (regulating.chan .ml).trackSince = some 0 ∧
      ((ml 60 true).measured .ml).mark = .degraded) ∧
    (∀ q ∈ [(ConvSide.below, 240), (.below, 239), (.below, 261), (.above, 260), (.above, 261), (.above, 239)],
      let s := converging q.1 q.2
      (s.chan .lr).state = .converge ∧ (s.chan .lr).held = some 250 ∧ (s.chan .lr).side.isSome = true ∧
        0 ≤ s.brake.regBand) ∧
    ((safeHeld.chan .lr).state ≠ .regulate ∧ (safeHeld.chan .lr).state ≠ .converge ∧
      (safeHeld.chan .lr).state ≠ .antilock) ∧
    ((compute safeHeld .lr).chan .lr).sp.value ≠ 300 := by decide +kernel

theorem safeHeld_lift : LiftOk safeHeld := ⟨by decide +kernel, by decide +kernel, by decide +kernel⟩

/-- R162: at one commit a hold, the roll function and a tracking time come due together (log entry 8). -/
theorem test_commitDue :
    let s := withInput .alat .hold 0
      (withChan .ml (fun r => { r with trackAccum := 2000, trackSince := none }) regulating)
    let s := s.setInput .alat { s.input .alat with holdDeadline := some 0 }
    s.commitDue (((s.brake.write 11 0).write 61 0).write 51 1) = [.hold (.input .alat), .roll, .track .ml] := by
  decide +kernel

theorem witness_ChannelTimersRun :
    ((regulating.chan .ml).state = .regulate ∧
      regulating.brake.trackTime ≤ (regulating.chan .ml).tracking (regulating.tick 2000000).now) ∧
    (let s := withChan .ml (fun r => { r with trackAccum := 500, trackSince := none }) regulating
     (s.chan .ml).state = .regulate ∧ s.brake.trackTime ≤ (s.chan .ml).tracking (s.tick 0).now) ∧
    (let s := withChan .lr (fun r => { r with state := .safeHold, holdDeadline := some 0 }) rested
     (s.chan .lr).state = .safeHold ∧ (s.chan .lr).holdDeadline = some 0 ∧ reached (s.tick 0).now 0 = true) ∧
    (let s := withChan .lr (fun r => { r with state := .converge, holdDeadline := some 0 }) rested
     (s.chan .lr).state = .converge ∧ (s.chan .lr).holdDeadline = some 0 ∧ reached (s.tick 0).now 0 = true) := by
  decide +kernel

theorem witness_CoilsAreTested :
    (let s := r0.setCoil (.of .lr .backup) ⟨true, true, .ok, some 0, none⟩
     (s.coil (.of .lr .backup)).readback = true ∧ (s.coil (.of .lr .backup)).onCheck = some 0 ∧
      reached (s.tick 0).now 0 = true ∧ s.faulted .supplyLow = false) ∧
    (up.coil .lift).readback = true ∧
    (let s : State := { r0 with chc.patrol := .lift }
     s.chc.patrol = .lift ∧ (s.coil .lift).readback = false ∧ s.faulted .supplyLow = false) := by decide +kernel

/-- An input in a state, with a run or a deadline from the reset on. -/
def inputAt (i : InputId) (st : InState) (cause : InCause) (run : Option Stamp) : State :=
  r0.setInput i { r0.input i with
    state := st, cause := cause, raised := if st = .lost then .inputRange else .none,
    holdDeadline := if st = .lost then none else some 0, runStart := run }

theorem witness_SampleMovesInput :
    (noCommit r0 = true ∧ (nominal .pcl).1 - margin .pcl ≤ -40 ∧ 1040 ≤ (nominal .pcl).2 + margin .pcl ∧
      ¬(nominal .pcl).1 - margin .pcl ≤ -41) ∧
    ((inputAt .pcl .valid .none none).input .pcl).state = .valid ∧
    ((inputAt .pcl .hold .range none).input .pcl).state = .hold ∧
    (((inputAt .pcl .lost .range (some 0)).input .pcl).state = .lost ∧
      ((inputAt .pcl .lost .range (some 0)).input .pcl).runStart = some 0 ∧
      100 ≤ since ((inputAt .pcl .lost .range (some 0)).tick 100000).now 0 ∧
      since ((inputAt .pcl .lost .range (some 0)).tick 99999).now 0 < 100 ∧
      raisedPair .pcl ((inputAt .pcl .lost .range (some 0)).input .pcl).raised = some (.inputRange .pcl)) ∧
    ((r0.input .pcl).state = .settling ∧ (r0.input .pcl).runStart = none ∧ (r0.input .pcl).holdDeadline = none) ∧
    (((inputAt .pcl .settling .range (some 0)).input .pcl).state = .settling ∧
      ((inputAt .pcl .settling .range (some 0)).input .pcl).holdDeadline = some 0 ∧
      ((inputAt .pcl .settling .range (some 0)).input .pcl).runStart = some 0) := by decide +kernel

/-- The PD input of LR in a state with its deadline at the present time, and LR in a state. -/
def failing (st : InState) (cause : InCause) (ch : ChState) (p : BrakeSet) : State :=
  let s := withChan .lr (fun r => { r with state := ch }) (inputAt .pdLR st cause (some 0))
  { s with cfs.brake := p }

/-- The deadline of LR's PD input has been reached, and no commit waits. -/
def expired (s : State) : Bool :=
  (s.input .pdLR).holdDeadline == some 0 && reached (s.tick 0).now 0 && noCommit s

theorem witness_InputsFail :
    let hold := failing .hold .openWire .converge (BrakeSet.factory.write 58 1)
    let bad := failing .settling .range .regulate .factory
    (expired hold ∧ (hold.input .pdLR).state = .hold ∧ (hold.input .pdLR).cause = .openWire ∧ pdOf .lr = .pdLR ∧
      hold.lac.deadline.isSome = true ∧ hold.lac.autoTimer = none ∧ (hold.chan .lr).state = .converge ∧
      hold.brake.holdThenPneumatic = true) ∧
    (expired bad ∧ (bad.input .pdLR).state = .settling ∧ (bad.input .pdLR).cause ≠ .openWire ∧
      (bad.chan .lr).state = .regulate ∧ bad.brake.holdThenPneumatic = false) ∧
    expired (failing .hold .range .safeHold .factory) ∧ expired (failing .hold .range .inhibited .factory) ∧
    expired (failing .hold .range .passthrough .factory) := by decide +kernel

theorem failing_lift (st : InState) (cause : InCause) (ch : ChState) (p : BrakeSet) :
    LiftOk (failing st cause ch p) :=
  ⟨⟨fun _ => .inr rfl, fun _ => rfl⟩, fun h => absurd h (by simp [show (failing st cause ch p).lac = r0.lac from rfl,
    show r0.lac.autoTimer = none from rfl]), by rintro (h | h) <;> exact nomatch h⟩

/-- A wheel end's record changed. -/
def withWheel (w : WheelEnd) (f : WheelRec → WheelRec) : State := r0.setWheel w (f (r0.wheel w))

theorem witness_WheelSpeedIsMeasured :
    (let s := withWheel .w3R fun r => { r with
       count := 2, firstEdge := some 0, ivLastEdge := some 5000, lastEdge := some 5000 }
     (s.wheel .w3R).lastEdge = some 5000 ∧ since (s.tick 204999).nowUs 5000 < 200000 ∧
      200000 ≤ since (s.tick 205000).nowUs 5000 ∧ 2 ≤ (s.wheel .w3R).count ∧ (s.wheel .w3R).firstEdge = some 0 ∧
      (s.wheel .w3R).ivLastEdge = some 5000 ∧ (5000 : Stamp) ≠ 0) ∧
    (let s := withWheel .w3R fun r => { r with count := 1, lastEdge := some 0 }
     (s.wheel .w3R).lastEdge = some 0 ∧ (s.wheel .w3R).count < 2 ∧ (s.tick 1).nowUs ≠ 0) ∧
    (r0.wheel .w3R).lastEdge = none := by decide +kernel

theorem witness_OpenWiresAreJudged :
    (r0.wheel .w1L).openWire = false ∧
    ((withWheel .w1L fun r => { r with openWire := true, state := .hold }).wheel .w1L).openWire = true ∧
    (let s := withWheel .w1L fun r => { r with openWire := true, holdDeadline := some 0 }
     (s.wheel .w1L).state = .settling ∧ (s.wheel .w1L).holdDeadline = some 0 ∧ reached (s.tick 0).now 0 = true) ∧
    (let s := withWheel .w1L fun r => { r with state := .lost, recoveryEnd := some 0 }
     (s.wheel .w1L).state = .lost ∧ (s.wheel .w1L).recoveryEnd = some 0 ∧ reached (s.tick 0).now 0 = true) := by
  decide +kernel

/-- The supply has been low for its time. -/
def supplyLowDue : State := { rested with icu.lowTimer := some 0 }

/-- VSOL at a value, its monitor in a state. -/
def supplied (st : InState) (v : Int) (low : Bool) : State :=
  let s := withInput .vsol st v r0
  s.setInput .vsol { s.input .vsol with holdDeadline := if st = .hold then some 0 else none } |> fun s =>
    { s with icu.supplyLow := low }

/-- SupplyIsMonitored: VSOL below `vsol_min`, at it, at `vsol_min` + 1000 and above it, in HOLD, SETTLING and LOST, with
SUPPLY_LOW clear and raised, and the end of its hold. -/
theorem witness_SupplyIsJudged :
    let after := fun (st : InState) (v : Int) (low : Bool) =>
      afterCommand (.analogSample 0 .vsol v false) (supplied st v low)
    let m := r0.brake.vsolMin
    (((after .valid (m - 1) false).input .vsol).filtered < m ∧ (after .valid (m - 1) false).icu.lowTimer = some 20 ∧
      ((after .valid m false).input .vsol).filtered = m ∧ (after .valid m false).icu.lowTimer = none) ∧
    (((after .valid (m + 1001) true).input .vsol).filtered = m + 1001 ∧
      (after .valid (m + 1001) true).icu.clearTimer = some 500 ∧
      ((after .valid (m + 1000) true).input .vsol).filtered = m + 1000 ∧
      (after .valid (m + 1000) true).icu.clearTimer = none) ∧
    (((after .settling m false).input .vsol).state = .settling ∧ ((after .lost m false).input .vsol).state = .lost ∧
      (after .lost m false).icu.lowTimer = some 20) ∧
    (((supplied .hold m false).input .vsol).state = .hold ∧
      ((supplied .hold m false).input .vsol).holdDeadline = some 0 ∧
      reached ((supplied .hold m false).tick 0).now 0 = true ∧
      (afterCommand (.inputHoldExpiry 0 .vsol) (supplied .hold m false)).icu.lowTimer = some 20) := by decide +kernel

theorem witness_SupplyIsMonitored :
    (supplyLowDue.icu.supplyLow = false ∧ supplyLowDue.icu.lowTimer = some 0 ∧
      reached (supplyLowDue.tick 0).now 0 = true ∧ noCommit supplyLowDue = true ∧ DemandOk supplyLowDue ∧
      ChannelsOk supplyLowDue) ∧
    (let s : State := { r0 with icu.supplyLow := true, icu.clearTimer := some 0 }
     s.icu.supplyLow = true ∧ s.icu.clearTimer = some 0 ∧ reached (s.tick 0).now 0 = true) :=
  ⟨⟨by decide +kernel, by decide +kernel, by decide +kernel, by decide +kernel, rested_inv.demand,
      rested_inv.channels⟩, by decide +kernel⟩

/-- A telegram frame of ID 7 in the layout of `telegramSet`, without its check byte. -/
def telegram : List Byte := [8#8, 0#8, 0#8, 0#8, 0#8, 7#8, 150#8, 70#8, 1#8, 77#8]

/-- A tyre set with profile 0 enabled and its alert bit last. -/
def telegramSet : TyreSet := (TyreSet.factory.write 13 1).write 27 63

/-- A frame in reception, with the layout enabled and perhaps an ID bound to 3RO. -/
def receiving (id : Option (BitVec 32)) : State :=
  withTyre .t3RO (fun r => { r with bound := id }) { r0 with
    cfs.tyre := telegramSet, ttr.rx := some telegram, ttr.gapDeadline := some 0 }

theorem witness_TelegramLineRuns :
    (r0.ttr.rx = none ∧ 4 ≤ (4#8).toNat ∧ (16#8).toNat ≤ 16 ∧ (3#8).toNat < 4 ∧ 16 < (17#8).toNat) ∧
    (let s : State := { r0 with ttr.rx := some [4#8, 0#8, 0#8, 0#8, 0#8] }
     s.ttr.rx = some [4#8, 0#8, 0#8, 0#8, 0#8] ∧
      [4#8, 0#8, 0#8, 0#8, 0#8].length + 1 < ([4#8, 0#8, 0#8, 0#8, 0#8].headD 0#8).toNat + 3) ∧
    ((receiving none).ttr.rx.isSome = true ∧ (receiving none).ttr.gapDeadline = some 0 ∧
      reached ((receiving none).tick 0).now 0 = true) := by decide +kernel

theorem witness_TelegramIsTaken :
    let payload := (telegram.drop 1).take 8
    ((receiving none).ttr.rx = some telegram ∧ telegram.length + 1 = (telegram.headD 0).toNat + 3 ∧
      2 ≤ telegram.length ∧ (telegram ++ [0#8]).foldl (· + ·) 0#8 ≠ 0#8) ∧
    ((telegram ++ [199#8]).foldl (· + ·) 0#8 = 0#8 ∧ matchProfile TyreSet.factory payload = none) ∧
    (matchProfile (receiving none).tyreSet payload = some 0 ∧ (receiving none).ttr.learn.slot = none ∧
      (receiving (some 7)).boundTo 7 = some .t3RO ∧ (receiving none).boundTo 7 = none) := by decide +kernel

/-- The telegram that `telegram` spells, at a time, with a temperature and a pressure. -/
def told (now : Stamp) (pressure T : Int) : Telegram := ⟨7, 0, pressure, some T, false, false, 77#8, now⟩

/-- A record with `n` trend samples a minute apart from 120000 ms on, that began at a compensated pressure of `first`
and stood at 800 last. -/
def trended (n : Nat) (first : Int) (leak : Bool) : TyreRec :=
  { TyreRec.cleared with
    compensated := some 800
    leak := leak
    trend := (List.range n).map fun i => (BitVec.ofNat 32 (120000 + 60000 * i), if i = 0 then first else 800) }

/-- TelegramIsTaken: HOT at its limit and past it, and at its clear value and past it; the newest sample at
`trend_interval` and younger; rings of 3, 4, 7 and 8; LEAK at its drop and below it; re-inflation by 30 and by 29; an
acknowledged set that stands and one that goes. -/
theorem witness_ServingJudges :
    let p := TyreSet.factory
    let y := Tyre.t2LO
    let hot := fun (T : Int) (before : Bool) =>
      ((told 0 800 T).temperature, (({ TyreRec.cleared with hot := before }).serve p y (told 0 800 T)).hot)
    let leak := fun (n : Nat) (first : Int) (before : Bool) =>
      let r := (trended n first before).serve p y (told (BitVec.ofNat 32 (120000 + 60000 * n)) 800 20)
      (r.trend.length, r.leak)
    (hot 95 false = (some 95, false) ∧ hot 96 false = (some 96, true) ∧ hot 90 true = (some 90, false) ∧
      hot 91 true = (some 91, true)) ∧
    (leak 2 820 false = (3, false) ∧ leak 3 820 false = (4, true) ∧ leak 3 819 false = (4, false) ∧
      leak 7 820 false = (8, true) ∧ leak 8 820 false = (8, false) ∧ leak 1 809 true = (2, false) ∧
      leak 1 810 true = (2, true)) ∧
    (let r := (trended 4 820 true).serve p y (told 359999 800 20); r.trend.length = 4 ∧ r.leak = true) ∧
    (let r := (trended 4 850 true).serve p y (told 359999 830 20); r.trend.length = 1 ∧ r.leak = false) ∧
    (let r := (trended 4 850 true).serve p y (told 359999 829 20); r.trend.length = 4 ∧ r.leak = true) ∧
    (let r : TyreRec := { trended 4 850 true with acked := some ⟨.none, false, true⟩ }
     (r.serve p y (told 359999 800 20)).acked = r.acked ∧ (r.serve p y (told 359999 830 20)).acked = none ∧
      (r.serve p y (told 359999 800 96)).acked = none ∧ (r.serve p y (told 359999 700 20)).acked = none) := by
  decide +kernel

/-- TelegramIsTaken: a field across bytes, the marker, and a telegram decoded from the spec's layout by hand. -/
theorem witness_FieldsAreDecoded :
    12 + 8 ≤ 8 * [0xAB#8, 0xCD#8, 0xEF#8].length ∧ bitField [0xAB#8, 0xCD#8, 0xEF#8] 12 8 = 0xDE ∧
    (let q := telegramSet.profile 0
     let g := q.decode 0 ((telegram.drop 1).take 8) 77#8 5
     q.idWidth ≤ 32 ∧ 0 < q.tempWidth ∧ g.id = 7 ∧ g.pressure = 600 ∧ g.temperature = some 20 ∧ g.alert = true ∧
      g.lowBattery = false) ∧ ({ telegramSet.profile 0 with tempWidth := 0 }).tempWidth = 0 := by decide +kernel

theorem witness_TyrePressureIsJudged :
    0 < (-40 : Int) + 273 ∧
    (judgeLevel TyreSet.factory .t1LO 500 500 .none ≠ .none ∧
      Level.held TyreSet.factory .t1LO 500 500 .none .lowWarn = true) := by decide +kernel

/-- The same frame with ID 7 bound to 3RO and a learn open for a position. -/
def binding (y : Tyre) : State := { receiving (some 7) with ttr.learn.slot := some ⟨y, .a, 0, 0⟩ }

theorem witness_PositionsAreBoundAndCleared :
    (accepted .a .learn none [12#8] r0 = true ∧ accepted .a .unbind none [12#8] r0 = true ∧ 11 < (12#8).toNat) ∧
    (accepted .t .learn none [11#8] (learning .t1LO .a) = true ∧ Tyre.list[(11#8).toNat]? = some .t3RO ∧
      (learning .t1LO .a).ttr.learn.slot.isSome = true) ∧
    (accepted .t .learn none [11#8] r0 = true ∧ r0.ttr.learn.slot = none) ∧
    (accepted .t .unbind none [11#8] (receiving (some 7)) = true ∧ ((receiving (some 7)).tyre .t3RO).bound ≠ none ∧
      ((receiving none).tyre .t3RO).bound = none) ∧
    ((learning .t3RO .a).ttr.learn.slot = some ⟨.t3RO, .a, 0, 0⟩ ∧
      (⟨.t3RO, .a, 0, 0⟩ : LearnSlot).position = .t3RO ∧ (⟨.t3RO, .a, 0, 0⟩ : LearnSlot).position ≠ .t1LO) ∧
    (let payload := ((telegram ++ [199#8]).drop 1).take 8
     let g := ((binding .t3RO).tyreSet.profile 0).decode 0 payload 77#8 ((binding .t3RO).tick 0).now
     (binding .t3RO).ttr.rx = some telegram ∧ (binding .t3RO).ttr.learn.slot = some ⟨.t3RO, .a, 0, 0⟩ ∧
      matchProfile (binding .t3RO).tyreSet payload = some 0 ∧ g.alert = true ∧
      (binding .t3RO).boundTo g.id = some .t3RO ∧ (binding .t1LO).boundTo g.id = some .t3RO ∧
      ({ receiving none with ttr.learn.slot := some ⟨.t3RO, .a, 0, 0⟩ } : State).boundTo g.id = none) := by
  decide +kernel

/-- The premise of the binding clause on the table. -/
theorem binding_tyres :
    TyresOk { rested with cfs.tyre := telegramSet, ttr.rx := some telegram, ttr.gapDeadline := some 0,
                          ttr.learn.slot := some ⟨.t3RO, .a, 0, 0⟩ } :=
  @of_decide_eq_true _ (decideTyres _) (by decide +kernel)

theorem witness_AlarmsAreAcknowledged :
    (accepted .a .tyreAckSet none [16#8, 0#8] r0 = true ∧ accepted .t .tyreAckClear none [16#8, 0#8] r0 = true ∧
      4096 ≤ 256 * (16#8).toNat + (0#8).toNat) ∧
    (accepted .a .tyreAckSet none [15#8, 255#8] r0 = true ∧ accepted .t .tyreAckClear none [15#8, 255#8] r0 = true ∧
      256 * (15#8).toNat + (255#8).toNat < 4096) := by decide +kernel

theorem witness_TyreTimersRun :
    (let s := withTyre .t1LO (fun r => { r with bound := some 7, state := .live, missingDeadline := some 0 }) r0
     (s.tyre .t1LO).missingDeadline = some 0 ∧ reached (s.tick 0).now 0 = true) ∧
    ((learning .t1LO .a).ttr.learn.slot = some ⟨.t1LO, .a, 0, 0⟩ ∧ (⟨.t1LO, .a, 0, 0⟩ : LearnSlot).deadline = 0 ∧
      reached ((learning .t1LO .a).tick 0).now 0 = true) ∧
    (let s : State := { r0 with ttr.wheels.w1R.drag := .running 0 }
     (s.wheelTyre .w1R).drag = .running 0 ∧ 60000 ≤ since (s.tick 60000000).now 0) := by decide +kernel

theorem witness_SessionOpens :
    let allowed := fun (s : State) =>
      (s.chc.ref.mark ≠ .lost ∧ s.chc.ref.val < 20) ∧ s.dar.e.val = 0 ∧ s.lac.state = .down
    (accepted .t .calOpen none [] session = true ∧ session.leu.sessionOpen = true) ∧
    (accepted .t .calOpen none [] r0 = true ∧ r0.leu.sessionOpen = false ∧ ¬allowed r0) ∧
    (let s : State := { rested with chc.ref := ⟨19, .degraded⟩ }
     accepted .t .calOpen none [] s = true ∧ s.leu.sessionOpen = false ∧ allowed s) := by decide +kernel

theorem witness_CapturesAreRecorded :
    (accepted .t .calCapture none [4#8, 1#8, 0x27#8, 0x10#8, 1#8] session = true ∧
      readCapture [4#8, 1#8, 0x27#8, 0x10#8, 1#8] = some ⟨[.pbl, .pbr, .pbx], true, 10000, true⟩ ∧
      session.leu.sessionOpen = true ∧ ∀ b, (session.input (bellowsInput b)).state = .valid) ∧
    (accepted .t .calCapture none [7#8, 0#8, 0#8, 0#8, 0#8] r0 = true ∧
      readCapture [7#8, 0#8, 0#8, 0#8, 0#8] = some ⟨[.pbl, .pbr, .pbx], false, 0, false⟩ ∧
      r0.leu.sessionOpen = false) ∧
    accepted .t .calClose none [] session = true ∧
    (∀ l ∈ [[8#8, 0#8, 0#8, 0#8, 0#8], [1#8, 2#8, 0#8, 0#8, 0#8], [1#8, 0#8, 0#8, 0#8, 2#8],
        [0#8, 0#8, 0#8, 0#8, 0#8], [3#8, 1#8, 0x2E#8, 0xE1#8, 0#8], [4#8, 1#8, 0x27#8, 0x11#8, 0#8]],
      readCapture l = none ∧ accepted .t .calCapture none l session = true) ∧
    (∀ l ∈ [[0#8, 0#8, 0#8, 0#8, 1#8], [3#8, 1#8, 0x2E#8, 0xE0#8, 0#8], [7#8, 1#8, 0x27#8, 0x10#8, 0#8]],
      (readCapture l).isSome = true) :=
  ⟨⟨by decide +kernel, by decide +kernel, by decide +kernel, by intro b; cases b <;> decide +kernel⟩,
    by decide +kernel, by decide +kernel, by decide +kernel, by decide +kernel⟩

theorem session_loads : LoadsOk session :=
  @of_decide_eq_true _ (decideLoads session) (by decide +kernel)

theorem witness_CalibrationsAreApplied :
    (accepted .t .calApply none [] r0 = true ∧ r0.leu.sessionOpen = false) ∧
    (accepted .t .calApply none [] session = true ∧ session.leu.sessionOpen = true ∧ LoadsOk session ∧
      LiftOk session ∧ session.leu.captures.get .pbx = ⟨none, none⟩ ∧
      (let q := candidateOf (session.leu.cal.get .pbl) (session.leu.captures.get .pbl)
       session.leu.captures.get .pbl ≠ ⟨none, none⟩ ∧ 50 ≤ q.pLaden - q.pEmpty ∧ q.loadEmpty < q.loadLaden) ∧
      (let q := candidateOf (session.leu.cal.get .pbr) (session.leu.captures.get .pbr)
       session.leu.captures.get .pbr ≠ ⟨none, none⟩ ∧ q.pLaden - q.pEmpty = 49)) ∧
    (accepted .t .calRevert none [7#8] session = true ∧ 1 ≤ (7#8).toNat ∧ (7#8).toNat ≤ 7) ∧
    (accepted .t .calRevert none [8#8] session = true ∧ 7 < (8#8).toNat ∧
      accepted .t .calRevert none [0#8] r0 = true ∧ (0#8).toNat = 0) ∧
    (accepted .t .calRevert none [1#8] r0 = true ∧ r0.leu.sessionOpen = false) :=
  ⟨by decide +kernel,
    ⟨by decide +kernel, by decide +kernel, session_loads, rested_inv.lift, by decide +kernel, by decide +kernel,
      by decide +kernel⟩, by decide +kernel⟩

theorem witness_LoadsAreReleased :
    let s : State := { rested with leu.frozen := true, leu.release := some 0 }
    s.leu.frozen = true ∧ s.leu.release = some 0 ∧ s.brake.loadReleaseTime ≤ since (s.tick 2000000).now 0 := by
  decide +kernel

/-- In AUTO, with the auto timer running. -/
def autoDue : State := { rested with lac.auto := true, lac.autoTimer := some 0 }

theorem autoDue_inv : Inv autoDue := inv_like rested_inv rfl (by decide +kernel)

/-- With the reference speed LOST, so that raise condition 1 fails. -/
def unknownSpeed : State := { rested with chc.ref := ⟨0, .lost⟩, rsu.causes := ⟨true, true, false⟩ }

theorem rested_raises (n : Nat) : raiseCondition rested n = true := by
  unfold raiseCondition; split <;> decide +kernel

theorem unknownSpeed_inv : Inv unknownSpeed := inv_like rested_inv rfl (by decide +kernel)

theorem witness_LiftRequestsAreJudged :
    (Inv rested ∧ accepted .a .liftRequest none [4#8] rested = true ∧ 3 < (4#8).toNat) ∧
    (Inv rested ∧ accepted .t .liftRequest none [0#8] rested = true ∧ rested.lac.state = .down ∧
      ∀ n, 1 ≤ n → n ≤ 11 → raiseCondition rested n = true) ∧
    (Inv unknownSpeed ∧ accepted .a .liftRequest none [0#8] unknownSpeed = true ∧ unknownSpeed.lac.state = .down ∧
      firstFailing unknownSpeed = some 1) ∧
    (Inv up ∧ accepted .a .liftRequest none [0#8] up = true ∧ up.lac.state ≠ .down) ∧
    (Inv up ∧ accepted .a .liftRequest none [1#8] up = true ∧ up.lac.state = .up) ∧
    (Inv coming ∧ accepted .a .liftRequest none [1#8] coming = true ∧ coming.lac.state = .lowering) ∧
    (Inv rested ∧ accepted .t .liftRequest none [2#8] rested = true ∧
      accepted .t .liftRequest none [3#8] rested = true) :=
  ⟨⟨rested_inv, by decide +kernel⟩, ⟨rested_inv, by decide +kernel, by decide +kernel, fun n _ _ => rested_raises n⟩,
    ⟨unknownSpeed_inv, by decide +kernel⟩, ⟨up_inv, by decide +kernel⟩, ⟨up_inv, by decide +kernel⟩,
    ⟨coming_inv, by decide +kernel⟩, ⟨rested_inv, by decide +kernel⟩⟩

/-- The button is down and was read as released. -/
def pressed (s : State) : State := { s with lac.pin := true, lac.button := .released }

theorem witness_LiftTimersRun :
    (let s := raised .raising (some 0)
     s.lac.deadline = some 0 ∧ reached (s.tick 0).now 0 = true ∧ s.lac.state = .raising) ∧
    (r0.lac.deadline = some 8000 ∧ reached (r0.tick 8000000).now 8000 = true ∧ r0.lac.state = .lowering) ∧
    (Inv autoDue ∧ autoDue.lac.auto = true ∧ autoDue.lac.autoTimer = some 0 ∧
      10000 ≤ since (autoDue.tick 10000000).now 0 ∧ ∀ n, 1 ≤ n → n ≤ 11 → raiseCondition autoDue n = true) ∧
    (r0.lac.pin ≠ true ∧ 50 ≤ since (r0.tick 50000).now r0.lac.pinSince ∧ r0.lac.button ≠ .released) ∧
    (let s : State := { up with lac.pin := true, lac.button := .released }
     50 ≤ since (s.tick 50000).now s.lac.pinSince ∧ s.lac.button = .released ∧ s.lac.pin = true ∧
      s.lac.state = .up) ∧
    (Inv (pressed rested) ∧ 50 ≤ since ((pressed rested).tick 50000).now (pressed rested).lac.pinSince ∧
      (pressed rested).lac.button = .released ∧ (pressed rested).lac.pin = true ∧
      (pressed rested).lac.state = .down ∧ ∀ n, 1 ≤ n → n ≤ 11 → raiseCondition (pressed rested) n = true) ∧
    ((pressed unknownSpeed).lac.state = .down ∧ firstFailing (pressed unknownSpeed) = some 1) ∧
    (pressed coming).lac.state = .lowering :=
  ⟨by decide +kernel, by decide +kernel,
    ⟨autoDue_inv, by decide +kernel, by decide +kernel, by decide +kernel, fun n _ _ => rested_raises n⟩,
    by decide +kernel, by decide +kernel,
    ⟨inv_like rested_inv rfl (by decide +kernel), by decide +kernel, by decide +kernel, by decide +kernel, by decide +kernel,
      fun n _ _ => rested_raises n⟩, by decide +kernel⟩

/-- The axle in a movement, its bellows read at a pressure, with the timeout flag set. -/
def moving (st : LiftState) (v : Int) : State :=
  let s := recomputeSensors [.pbx] (withInput .pbx .valid v (raised st (some 8000)))
  { s with lac.timeoutFlag := true }

theorem moving_inv :
    Inv (moving .raising 29) ∧ Inv (moving .raising 30) ∧ Inv (moving .lowering 100) ∧ Inv (moving .lowering 99) := by
  and_intros <;> exact inv_like rested_inv (by simp [moving, raised]) (by decide +kernel)

/-- The reading of PBX after a sample that repeats it, or that finds an open wire. -/
def pbxAfter (v : Int) (o : Bool) (s : State) : Marked := (afterCommand (.analogSample 0 .pbx v o) s).reading .pbx

/-- BellowsEndMovement: PBX published on both sides of each limit, and DEGRADED. -/
theorem witness_BellowsEndMovement :
    ((moving .raising 29).brake.pbxUpLimit = 30 ∧ (moving .raising 29).brake.pbxDownLimit = 100) ∧
    ((moving .raising 29).lac.state = .raising ∧ pbxAfter 29 false (moving .raising 29) = ⟨29, .valid⟩ ∧
      turnsValid 0 .pbx 29 (moving .raising 29) ∧ (moving .raising 29).lac.timeoutFlag = true) ∧
    ((moving .raising 30).lac.state = .raising ∧ pbxAfter 30 false (moving .raising 30) = ⟨30, .valid⟩ ∧
      pbxAfter 29 true (moving .raising 29) = ⟨29, .degraded⟩) ∧
    ((moving .lowering 100).lac.state = .lowering ∧ pbxAfter 100 false (moving .lowering 100) = ⟨100, .valid⟩) ∧
    ((moving .lowering 99).lac.state = .lowering ∧ pbxAfter 99 false (moving .lowering 99) = ⟨99, .valid⟩ ∧
      pbxAfter 100 true (moving .lowering 100) = ⟨100, .degraded⟩) ∧
    (Inv up ∧ up.lac.state = .up ∧ Inv rested ∧ rested.lac.state = .down) :=
  ⟨by decide +kernel, ⟨by decide +kernel, by decide +kernel, ⟨by decide +kernel, .inl (by decide +kernel)⟩, by decide +kernel⟩,
    by decide +kernel, by decide +kernel, by decide +kernel,
    ⟨up_inv, by decide +kernel, rested_inv, by decide +kernel⟩⟩

/-- The roll record in a state, with floors and its times at the present. -/
def rolling (st : RollState) (inner outer : Int) : State :=
  { r0 with
    rsu.state := st, rsu.inner := some .left, rsu.innerFloor := inner, rsu.outerFloor := outer,
    rsu.probeDeadline := some 0, rsu.quiet := some 0, rsu.nextStep := some 0 }

/-- In WATCH under way with ALAT at 419, moved on by the roll function's own operations, then ALAT at `x`. -/
def rollAt (v slow x : Int) (f : State → State) : State :=
  withInput .alat .valid x (f (clear .rollUnavailable
    { wheeled v slow (withInput .alat .valid 419 rested) with rsu.state := .watch, rsu.causes := ⟨false, false, false⟩ }))

def toIntervene : State → State := fun s => rollToIntervene .lateral none (rollToProbe s)
def toRecover : State → State := fun s => rollToRecover (toIntervene s)

/-- ALAT in HOLD, its deadline at the present time. -/
def alatHeld (s : State) : State :=
  s.setInput .alat { s.input .alat with state := .hold, cause := .range, holdDeadline := some 0 }

theorem alatHeld_cfs (s : State) : (alatHeld s).cfs = s.cfs := rfl

theorem rollAt_cfs (v slow x : Int) (f : State → State) (hf : ∀ s, (f s).cfs = s.cfs) :
    (rollAt v slow x f).cfs = rested.cfs := by
  simp [rollAt, wheeled, hf]

theorem rollAt_inv :
    Inv (rollAt 300 300 525 id) ∧ Inv (rollAt 300 300 419 id) ∧ Inv (rollAt 300 300 418 id) ∧
    Inv (rollAt 199 199 525 id) ∧ Inv (rollAt 300 300 525 rollToProbe) ∧ Inv (rollAt 300 300 388 rollToProbe) ∧
    Inv (rollAt 300 300 389 rollToProbe) ∧ Inv (rollAt 300 100 389 rollToProbe) ∧
    Inv (rollAt 300 300 (-525) toIntervene) ∧ Inv (rollAt 300 300 424 toIntervene) ∧
    Inv (rollAt 99 99 425 toIntervene) ∧ Inv (rollAt 300 300 525 toRecover) ∧ Inv (rollAt 300 300 524 toRecover) := by
  and_intros <;>
    exact inv_like rested_inv (rollAt_cfs _ _ _ _ fun s => by simp [toIntervene, toRecover]) (by decide +kernel)

theorem alatHeld_inv :
    Inv (alatHeld (rollAt 300 300 419 id)) ∧ Inv (alatHeld (rollAt 300 300 419 rollToProbe)) ∧
    Inv (alatHeld (rollAt 300 300 419 toIntervene)) ∧ Inv (alatHeld (rollAt 300 300 419 toRecover)) := by
  and_intros <;>
    exact inv_like rested_inv ((alatHeld_cfs _).trans (rollAt_cfs _ _ _ _ fun s => by simp [toIntervene, toRecover]))
      (by decide +kernel)

/-- What AlatMovesRoll asks of a state and of the one after a sample: the roll state, ALAT, the causes of R146 and the
thresholds. -/
def sampled (x : Int) (s : State) : RollState × Int × Bool × Int × Int :=
  let t := afterCommand (.analogSample 0 .alat x false) s
  (s.rsu.state, (t.reading .alat).val, t.rollCauses.any, s.rsu.aThr, s.rsu.aProbe)

/-- What EvaluationMovesRoll asks of a state and of the one after an evaluation: the roll state, ALAT, the causes, the
reference speed, and whether W2L slips by `lift_slip`. -/
def evaluated (s : State) : RollState × Int × Bool × Int × Bool :=
  let t := afterCommand (.referenceEvaluation 0) s
  (s.rsu.state, (s.reading .alat).val, t.rollCauses.any, t.chc.ref.val, decide (200 ≤ t.chc.slips.w2L))

/-- No wheel end VALID. -/
def wheelless (s : State) : State := { s with icu.wheels := r0.icu.wheels }

theorem wheelless_cfs (s : State) : (wheelless s).cfs = s.cfs := rfl

theorem wheelless_inv :
    Inv (wheelless (rollAt 300 300 419 id)) ∧ Inv (wheelless (rollAt 300 300 389 rollToProbe)) := by
  and_intros <;>
    exact inv_like rested_inv ((wheelless_cfs _).trans (rollAt_cfs _ _ _ _ fun s => by simp)) (by decide +kernel)

/-- AlatMovesRoll: a sample that repeats ALAT leaves it where each clause asks for it, without a cause of R146. -/
theorem witness_AlatMovesRoll :
    sampled 525 (rollAt 300 300 525 id) = (.watch, 525, false, 525, 419) ∧
    sampled 419 (rollAt 300 300 419 id) = (.watch, 419, false, 525, 419) ∧
    sampled 418 (rollAt 300 300 418 id) = (.watch, 418, false, 525, 419) ∧
    ((rollAt 300 300 419 id).brake.probeMinSpeed = 200 ∧ (rollAt 300 300 419 id).rsu.lastProbeEnd = none) ∧
    sampled 525 (rollAt 199 199 525 id) = (.watch, 525, false, 525, 419) ∧
    sampled 525 (rollAt 300 300 525 rollToProbe) = (.probe, 525, false, 525, 419) ∧
    sampled 388 (rollAt 300 300 388 rollToProbe) = (.probe, 388, false, 525, 419) ∧
    sampled 389 (rollAt 300 300 389 rollToProbe) = (.probe, 389, false, 525, 419) ∧
    (sampled (-525) (rollAt 300 300 (-525) toIntervene) = (.intervene, -525, false, 525, 419) ∧
      (rollAt 300 300 (-525) toIntervene).rsu.inner = some .left) ∧
    sampled 424 (rollAt 300 300 424 toIntervene) = (.intervene, 424, false, 525, 419) ∧
    sampled 525 (rollAt 300 300 525 toRecover) = (.recover, 525, false, 525, 419) ∧
    sampled 524 (rollAt 300 300 524 toRecover) = (.recover, 524, false, 525, 419) := by
  and_intros <;> decide +kernel

/-- EvaluationMovesRoll: entries at 525 and 419 and none at 418, a lift and none, a reference speed of 99 and of 300,
and the loss of every wheel end. -/
theorem witness_EvaluationMovesRoll :
    (rollAt 300 100 389 rollToProbe).brake.liftSlip = 200 ∧
    evaluated (rollAt 300 300 525 id) = (.watch, 525, false, 300, false) ∧
    evaluated (rollAt 300 300 419 id) = (.watch, 419, false, 300, false) ∧
    evaluated (rollAt 300 300 418 id) = (.watch, 418, false, 300, false) ∧
    evaluated (rollAt 300 100 389 rollToProbe) = (.probe, 389, false, 300, true) ∧
    evaluated (rollAt 300 300 389 rollToProbe) = (.probe, 389, false, 300, false) ∧
    evaluated (rollAt 99 99 425 toIntervene) = (.intervene, 425, false, 99, false) ∧
    evaluated (rollAt 300 300 424 toIntervene) = (.intervene, 424, false, 300, false) ∧
    evaluated (rollAt 300 300 525 toRecover) = (.recover, 525, false, 300, false) ∧
    evaluated (wheelless (rollAt 300 300 419 id)) = (.watch, 419, true, 0, false) ∧
    evaluated (wheelless (rollAt 300 300 389 rollToProbe)) = (.probe, 389, true, 0, false) := by
  and_intros <;> decide +kernel

/-- In WATCH under way with ALAT at 419, after a probe that ended at time 0. -/
def heldOff : State := rollAt 300 300 419 fun s => probeEnds (rollToProbe s)

theorem heldOff_inv : Inv heldOff :=
  inv_like rested_inv (rollAt_cfs _ _ _ _ fun s => by simp) (by decide +kernel)

/-- What AlatMovesRoll and EvaluationMovesRoll ask of the state after a publication: ALAT, the reference speed and the
causes of R146. -/
def published (t : State) : Int × Int × Bool := ((t.reading .alat).val, t.chc.ref.val, t.rollCauses.any)

/-- R149: 999 ms after the probe a publication finds the holdoff running, and 1001 ms after it ended. -/
theorem witness_HoldoffRuns :
    (heldOff.rsu.state = .watch ∧ heldOff.rsu.lastProbeEnd = some 0 ∧ heldOff.brake.probeHoldoff = 1000 ∧
      (heldOff.rsu.aThr, heldOff.rsu.aProbe) = (525, 419) ∧ since (heldOff.tick 999000).now 0 = 999 ∧
      since (heldOff.tick 1000000).now 0 = 1000 ∧ since (heldOff.tick 1001000).now 0 = 1001) ∧
    (let t := afterCommand (.analogSample 999000 .alat 419 false) heldOff
     published t = (419, 300, false) ∧ t.rsu.state = .watch) ∧
    (let t := afterCommand (.analogSample 1001000 .alat 419 false) heldOff
     published t = (419, 300, false) ∧ t.rsu.state = .probe) ∧
    (let t := afterCommand (.referenceEvaluation 999000) heldOff
     published t = (419, 300, false) ∧ t.rsu.state = .watch) ∧
    (let t := afterCommand (.referenceEvaluation 1001000) heldOff
     published t = (419, 300, false) ∧ t.rsu.state = .probe) := by
  and_intros <;> decide +kernel

/-- AlatMovesRoll, at the very end of the holdoff: whichever is taken first, the clause's premises hold. -/
theorem witness_AlatAtHoldoffEnd :
    published (afterCommand (.analogSample 1000000 .alat 419 false) heldOff) = (419, 300, false) := by
  simp only [afterCommand, exec, execAnalogSample, event, reactInput, sampleArrives, publish, reduceCtorEq, if_false]
  rw [rollOnAlat_watch (by decide +kernel)]
  refine judgeEntry_at_holdoff_end
    (P := fun u => published (State.finish (heldOff.tick 1000000) (lacReact u)) = (419, 300, false)) ?_ ?_ ?_ ?_ ?_
  all_goals decide +kernel

/-- R151: what holds of both orders, and of the one that a choice gives, holds of the outcome. -/
theorem eitherOrder_of {P : State → Prop} {f g : State → State} {s : State} (h : P (g (f s)))
    (hf : P (g (f s.coin.2))) (hg : P (f (g s.coin.2))) : P (eitherOrder f g s) := by
  simp only [eitherOrder]
  repeat' split
  all_goals assumption

/-- EvaluationMovesRoll, at the very end of the holdoff: whichever is taken first, the clause's premises hold. -/
theorem witness_EvaluationAtHoldoffEnd :
    published (afterCommand (.referenceEvaluation 1000000) heldOff) = (419, 300, false) := by
  simp only [afterCommand, exec, execReferenceEvaluation, event, referenceStep]
  refine eitherOrder_of
    (P := fun u => published (State.finish (heldOff.tick 1000000) (settle u)) = (419, 300, false)) ?_ ?_ ?_
  all_goals rw [rollOnReference_watch (by decide +kernel)]
  · refine judgeEntry_at_holdoff_end
      (P := fun u => published (State.finish (heldOff.tick 1000000) (settle u)) = (419, 300, false)) ?_ ?_ ?_ ?_ ?_
    all_goals decide +kernel
  · refine judgeEntry_at_holdoff_end
      (P := fun u => published (State.finish (heldOff.tick 1000000) (settle u)) = (419, 300, false)) ?_ ?_ ?_ ?_ ?_
    all_goals decide +kernel
  · refine judgeEntry_at_holdoff_end
      (P := fun u => published (State.finish (heldOff.tick 1000000) (settle (channelsOnReference u))) =
        (419, 300, false)) ?_ ?_ ?_ ?_ ?_
    all_goals decide +kernel

/-- In a roll state, with the hold of ALAT run out. -/
def due (st : RollState) (s : State) : Bool :=
  s.rsu.state == st && noCommit s && (s.input .alat).state == .hold && (s.input .alat).holdDeadline == some 0 &&
    reached (s.tick 0).now 0

/-- A part whose roll function is off, disabled while ALAT was VALID. -/
def rollOff : State :=
  let s := clear .rollUnavailable rested
  { s with
    cfs.brake := s.cfs.brake.write 61 0
    cfs.stagedBrake := s.cfs.stagedBrake.write 61 0
    rsu.state := .disabled
    rsu.causes := ⟨false, false, false⟩ }

theorem rollOff_inv : Inv (alatHeld rollOff) := inv_of _ (by decide +kernel)

/-- AlatLossMovesRoll: the hold of ALAT has run out in each state. -/
theorem witness_AlatLossMovesRoll :
    due .watch (alatHeld (rollAt 300 300 419 id)) ∧ due .probe (alatHeld (rollAt 300 300 419 rollToProbe)) ∧
    due .intervene (alatHeld (rollAt 300 300 419 toIntervene)) ∧
    due .recover (alatHeld (rollAt 300 300 419 toRecover)) ∧ due .disabled (alatHeld rollOff) ∧
    (alatHeld rollOff).rsu.causes.alatLost = false := by decide +kernel

/-- RollStatesMove, the timers. -/
theorem witness_RollStatesMove :
    ((rolling .probe 20 0).rsu.state = .probe ∧ (rolling .probe 20 0).rsu.probeDeadline = some 0 ∧
      reached ((rolling .probe 20 0).tick 0).now 0 = true) ∧
    ((rolling .intervene 60 150).rsu.state = .intervene ∧ (rolling .intervene 60 150).rsu.quiet = some 0 ∧
      500 ≤ since ((rolling .intervene 60 150).tick 500000).now 0) ∧
    ((rolling .recover 50 51).rsu.state = .recover ∧ (rolling .recover 50 51).rsu.nextStep = some 0 ∧
      50 < (rolling .recover 50 51).rsu.outerFloor) ∧
    ((rolling .recover 50 50).rsu.innerFloor ≤ 50 ∧ (rolling .recover 50 50).rsu.outerFloor ≤ 50 ∧
      (rolling .recover 50 50).rollCauses.any = true) ∧
    (let s := withInput .alat .valid 0 { rolling .recover 0 0 with chc.ref := ⟨0, .valid⟩, dar.mode := .sensed }
     s.rollCauses.any = false) := by decide +kernel

theorem witness_HardResetLoadsStore :
    (let f : PerSection Found := ⟨.asStored, .damaged, .erased, .asStored⟩
     f.get .brakeConfig = .asStored ∧ f.get .tyreConfig = .damaged ∧ f.get .calibration = .erased ∧
      stored.cfs.write = none ∧ (stored.sect .bindings).stored = .good (.bindings (.all none))) ∧
    (let t := afterCommand (.hardReset ⟨.asStored, .damaged, .asStored, .asStored⟩) stored
     (t.sect .brakeConfig).stored = .good (.brake (BrakeSet.factory.write 61 0)) ∧
      (t.sect .bindings).stored = .good (.bindings (.all none)) ∧ (t.sect .tyreConfig).state ≠ .good) ∧
    (let t := afterCommand (.hardReset ⟨.asStored, .asStored, .erased, .asStored⟩) stored
     (t.sect .tyreConfig).stored = .good (.tyre .factory) ∧ (t.sect .calibration).state ≠ .good) ∧
    (let s : State := { stored with cfs.write := some ⟨.bindings, .bindings (.all none)⟩ }
     let f : PerSection Found := ⟨.asStored, .asStored, .asStored, .asStored⟩
     let t := afterCommand (.hardReset f) s
     s.cfs.write = some ⟨.bindings, .bindings (.all none)⟩ ∧ f.get .calibration = .asStored ∧
      (∀ w, s.cfs.write = some w → w.sect ≠ .calibration) ∧ (t.sect .bindings).state ≠ .good ∧
      (t.sect .calibration).stored = .good (.calibration (calFactory true))) := by
  refine ⟨by decide +kernel, by decide +kernel, by decide +kernel, ?_⟩
  refine ⟨rfl, rfl, ?_, by decide +kernel, by decide +kernel⟩
  intro w h
  cases h
  decide

/-- StepKeepsFaultsAndPorts, StepKeepsTyres, StepKeepsSetpoints and StepKeepsConfig. -/
theorem witness_StepKeepsInvariants : ∃ t, Inv rested ∧ step rested = .next t := ⟨_, rested_inv, rfl⟩

/-- StepKeepsCoilsAndChannels and StepKeepsLoadsAndLift, with the axle raised. -/
theorem witness_StepKeepsRaised :
    ∃ t, Inv up ∧ step up = .next t ∧ t.chanLifted .ll = true ∧ t.lac.state = .up :=
  ⟨_, up_inv, rfl, by decide +kernel⟩

/-- StepKeepsDemandAndRoll, in PROBE. -/
theorem witness_StepKeepsProbing : ∃ t, Inv probing ∧ step probing = .next t ∧ t.rsu.state = .probe :=
  ⟨_, probing_inv, rfl, by decide +kernel⟩

/-! ## Ill-formed commands are refused -/

theorem test_wellFormed_delay :
    (Instr.nullFrame (2 ^ 31 * 1000) .a).wellFormed = false ∧
    (Instr.nullFrame (2 ^ 31 * 1000 - 1) .a).wellFormed = true := by decide +kernel

theorem test_wellFormed_payload :
    (Instr.demand 0 .a none (List.replicate 49 0#8)).wellFormed = false ∧
    (Instr.demand 0 .a none (List.replicate 48 0#8)).wellFormed = true := by decide +kernel

theorem test_wellFormed_reading :
    (Instr.analogSample 0 .pcl 2147483648 false).wellFormed = false ∧
    (Instr.analogSample 0 .pcl (-2147483649) false).wellFormed = false ∧
    (Instr.analogSample 0 .pcl (-2147483648) false).wellFormed = true := by decide +kernel

theorem test_wellFormed_badFrame :
    (Instr.badFrame 0 .t (List.replicate 258 0#8)).wellFormed = false ∧
    (Instr.badFrame 0 .t (List.replicate 257 0#8)).wellFormed = true := by decide +kernel

theorem test_decodeTableWord_spells_nothing : decodeTableWord 16 0x1234 = none := by decide

/-! ## The manual's worked examples -/

/-- R36: 805 kPa at 18 °C. -/
theorem test_compensate : compensate 805 (some 18) = 811 := by decide +kernel

/-- R56: the default PBL record at 450 and at 100 kPa. -/
theorem test_sensorLoad :
    sensorLoad .pbl (CalRec.factory true .pbl) 450 = 7000 ∧ sensorLoad .pbl (CalRec.factory true .pbl) 100 = 2330 := by
  decide +kernel

/-- R63: the fill of an applied total of 17000 kg. -/
theorem test_fill : (fillOf .factory ⟨17000, .valid⟩).val = 498 := by decide +kernel

/-- R85: the ceiling of half of 400 + 411. -/
theorem test_agreement : agreement 20 (freshCtrl 400) (freshCtrl 411) = some 406 := by decide +kernel

/-- R106, R108, R109, R110: main load 14000 kg, E = 400, and a FLAT wheel end. -/
theorem test_setpoint :
    (loadFraction .factory .ml (inputsFor 400 14000)).val = 682 ∧ gainOf .factory 682 = 835 ∧
    (computeSetpoint .factory .ml (inputsFor 400 14000) 0).value = 326 ∧
    (computeSetpoint .factory .ml { inputsFor 400 14000 with derate := 768 } 0).value = 244 := by decide +kernel

/-- R109, R111: E = 25 at the empty gain gives 11, which the minimum apply makes 30. -/
theorem test_minApply : divNearest (25 * 460) 1024 = 11 ∧ minApply .factory 11 = 30 ∧ minApply .factory 326 = 326 := by
  decide +kernel

/-- R145: the thresholds at a fill of 183 and of 278. -/
theorem test_roll_thresholds :
    rollThr .factory 183 false = 506 ∧ probeThr .factory 506 = 404 ∧ rollThr .factory 278 false = 483 ∧
    probeThr .factory 483 = 386 := by decide +kernel

/-- R181: the check sequence "123456789" has remainder 0x20 under this CRC (the published check value of the same
polynomial, 0xDF, without its final inversion). -/
theorem test_crc8 : crc8 [0x31, 0x32, 0x33, 0x34, 0x35, 0x36, 0x37, 0x38, 0x39] = 0x20#8 := by decide +kernel

/-- R183, R188: IDENTIFY as bytes on port T is answered with the identity. -/
theorem test_identify_on_port_T :
    (let s : State := { r0 with pif.uart.rx := some [2#8, 25#8, 0#8] }
     (afterCommand (.portTByte 0 (crc8 [2#8, 25#8, 0#8])) s).pif.uart.held) =
      [⟨25#8, .done [0x5C#8, 0x02#8, 0x64#8, 3#8]⟩] := by decide +kernel

/-- R44: the telegram of an unbound ID heads the stranger list. -/
theorem test_stranger :
    ((afterCommand (.telegramFrame 0 199#8) (receiving none)).ttr.strangers.map fun e => e.id) = [7#32] := by
  decide +kernel

/-- R23: a `vsol_min` raised since the latest VSOL publication starts no low timer at the clear, but the next publication
does. -/
theorem test_vsol_min_from_next_publication :
    let s := withInput .vsol .valid 21000 r0
    let s : State := { s with icu.supplyLow := true, icu.clearTimer := some 0, cfs.brake := s.cfs.brake.write 16 22000 }
    let t := afterCommand (.supplyClearTimerExpiry 0) s
    (t.icu.supplyLow = false ∧ t.icu.lowTimer = none) ∧
      (afterCommand (.analogSample 0 .vsol 21000 false) t).icu.lowTimer = some 20 := by decide +kernel

/-- R157: the slips of axle 1 become 0 as it leaves DOWN; the other wheel ends keep theirs. -/
theorem test_slips_on_leaving_down :
    let s := writeSlip { rested with chc.slips := .all 500 } .ll
    (beginRaise s).chc.slips = ⟨0, 0, 500, 500, 500, 500⟩ ∧ ((beginRaise s).chan .ll).slip = 0 := by decide +kernel

/-- R73: a raise request at rest lifts the axle, with the LIFT coil on. -/
theorem test_raise :
    let t := afterCommand (.liftRequest 0 .a none [0#8]) rested
    t.lac.state = .raising ∧ (t.coil .lift).readback = true ∧ t.leu.appLift = ⟨0, .valid⟩ := by decide +kernel

end Sys2Proof.Tests
end

section
/-! What every command leaves of the part's time and of the waiting commands (O2). An event lets its time pass and then
hands the state to its blocks, so what remains is that no block moves the clock or the queue: the joint reset (R192), a
command taken on a port (R181 to R184), the shared steps of the remaining rows, and the row of each command. -/

namespace Sys2Proof.Machine

/-! ## The joint reset (R192) -/

@[simp] theorem jointDrags_keeps (s : State) (l : List WheelEnd) :
    (l.foldl jointDrag s).clock = s.clock ∧ (l.foldl jointDrag s).pending = s.pending :=
  ⟨foldl_keeps (·.clock) jointDrag (fun _ _ => rfl) l s, foldl_keeps (·.pending) jointDrag (fun _ _ => rfl) l s⟩

@[simp] theorem jointTyres_keeps (s : State) :
    (jointTyres s).clock = s.clock ∧ (jointTyres s).pending = s.pending := by
  simp [jointTyres]

@[simp] theorem jointLoads_keeps (s : State) :
    (jointLoads s).clock = s.clock ∧ (jointLoads s).pending = s.pending := by
  simp [jointLoads]

@[simp] theorem jointCoil_keeps (s : State) (k : Coil) :
    (jointCoil s k).clock = s.clock ∧ (jointCoil s k).pending = s.pending := by
  cases k <;> simp [jointCoil]

@[simp] theorem jointCoils_keeps (s : State) (l : List Coil) :
    (l.foldl jointCoil s).clock = s.clock ∧ (l.foldl jointCoil s).pending = s.pending :=
  ⟨foldl_keeps (·.clock) _ (fun s k => (jointCoil_keeps s k).1) l s,
    foldl_keeps (·.pending) _ (fun s k => (jointCoil_keeps s k).2) l s⟩

@[simp] theorem jointChannels_keeps (s : State) :
    (jointChannels s).clock = s.clock ∧ (jointChannels s).pending = s.pending := by
  simp [jointChannels]

@[simp] theorem jointStore_keeps (s : State) :
    (jointStore s).clock = s.clock ∧ (jointStore s).pending = s.pending := by
  unfold jointStore
  split <;> simp

@[simp] theorem jointLatch_keeps (s : State) (k : Coil) :
    (jointLatch s k).clock = s.clock ∧ (jointLatch s k).pending = s.pending := by
  cases k with
  | lift => exact ⟨rfl, rfl⟩
  | of c f =>
    dsimp only [jointLatch]
    split <;> simp

@[simp] theorem jointLatches_keeps (s : State) (l : List Coil) :
    (l.foldl jointLatch s).clock = s.clock ∧ (l.foldl jointLatch s).pending = s.pending :=
  ⟨foldl_keeps (·.clock) _ (fun s k => (jointLatch_keeps s k).1) l s,
    foldl_keeps (·.pending) _ (fun s k => (jointLatch_keeps s k).2) l s⟩

@[simp] theorem jointReset_keeps (s : State) :
    (jointReset s).clock = s.clock ∧ (jointReset s).pending = s.pending := by
  simp [jointReset]

/-! ## A command taken on a port (R181 to R184) -/

@[simp] theorem doJointReset_keeps (s : State) (p : Port) :
    ((doJointReset p s).state).clock = s.clock ∧ ((doJointReset p s).state).pending = s.pending := by
  unfold doJointReset
  split
  · simp [done]
  · dsimp only
    split <;> simp [done]

theorem noPayload_keeps {f : State → Result} (payload : List Byte) (s : State)
    (h : (f s).state.clock = s.clock ∧ (f s).state.pending = s.pending) :
    (noPayload payload f s).state.clock = s.clock ∧ (noPayload payload f s).state.pending = s.pending := by
  unfold noPayload
  split
  · exact h
  · exact ⟨rfl, rfl⟩

@[simp] theorem perform_keeps (s : State) (p : Port) (c : Command) (payload : List Byte) :
    (perform p c payload s).state.clock = s.clock ∧ (perform p c payload s).state.pending = s.pending := by
  cases c with
  | resumeElectric | clearPassthrough | jointReset | clearFirst | commitBrake | discardBrake | commitTyre
  | clearInactive | calOpen | calApply | calClose | identify | portReset =>
    exact noPayload_keeps payload s (by simp [done])
  | demand | channelRestore | stage | confirmBrake | liftRequest | learn | unbind | tyreAckSet | tyreAckClear
  | calCapture | calRevert | snapshotInterval | readRecord | subscribeSet | subscribeClear | takeEvents | peekEvents =>
    simp [perform]

@[simp] theorem judgeCommand_keeps (s : State) (p : Port) (c : Command) (g : Option Guard) (payload : List Byte) :
    (judgeCommand p c g payload s).state.clock = s.clock ∧
    (judgeCommand p c g payload s).state.pending = s.pending := by
  unfold judgeCommand
  split
  · cases g with
    | none => simp
    | some x => dsimp only; split <;> simp
  · exact ⟨rfl, rfl⟩

@[simp] theorem takeCommand_keeps (s : State) (p : Port) (c : Command) (g : Option Guard) (payload : List Byte) :
    (takeCommand p c g payload s).clock = s.clock ∧ (takeCommand p c g payload s).pending = s.pending := by
  unfold takeCommand
  dsimp only
  split <;> simp

@[simp] theorem takeFrame_keeps (s : State) (p : Port) (bytes : List Byte) :
    (takeFrame p bytes s).clock = s.clock ∧ (takeFrame p bytes s).pending = s.pending := by
  unfold takeFrame
  split
  · simp
  · dsimp only
    split <;> simp

@[simp] theorem portByte_keeps (s : State) (b : Byte) :
    (portByte b s).clock = s.clock ∧ (portByte b s).pending = s.pending := by
  unfold portByte
  split
  · split <;> simp
  · dsimp only
    split <;> simp

/-! ## The shared steps of the other rows -/

@[simp] theorem reactInput_keeps (s : State) (i : InputId) :
    (reactInput i s).clock = s.clock ∧ (reactInput i s).pending = s.pending := by
  unfold reactInput
  split <;> simp

@[simp] theorem evaluateWheels_keeps (s : State) (l : List WheelEnd) :
    (l.foldl evaluateWheel s).clock = s.clock ∧ (l.foldl evaluateWheel s).pending = s.pending :=
  ⟨foldl_keeps (·.clock) _ (fun s w => by simp) l s, foldl_keeps (·.pending) _ (fun s w => by simp) l s⟩

@[simp] theorem debounce_keeps (s : State) :
    (debounce s).clock = s.clock ∧ (debounce s).pending = s.pending := by
  unfold debounce
  dsimp only
  split <;> simp

/-- Whichever of two blocks acts first, what both of them keep is kept. -/
theorem eitherOrder_keeps {α : Type} {f g : State → State} (part : State → α)
    (hcoin : ∀ s : State, part s.coin.2 = part s) (hf : ∀ s, part (f s) = part s)
    (hg : ∀ s, part (g s) = part s) (s : State) : part (eitherOrder f g s) = part s := by
  unfold eitherOrder
  dsimp only
  split
  · rw [hg, hf]
  · split
    · rw [hg, hf, hcoin]
    · rw [hf, hg, hcoin]

@[simp] theorem channelsOnReference_keeps (s : State) :
    (channelsOnReference s).clock = s.clock ∧ (channelsOnReference s).pending = s.pending := by
  simp [channelsOnReference]

@[simp] theorem channelsAndRollOnReference_keeps (s : State) :
    (eitherOrder channelsOnReference rollOnReference s).clock = s.clock ∧
    (eitherOrder channelsOnReference rollOnReference s).pending = s.pending :=
  ⟨eitherOrder_keeps (·.clock) (fun s => by simp) (fun s => by simp) (fun s => by simp) s,
    eitherOrder_keeps (·.pending) (fun s => by simp) (fun s => by simp) (fun s => by simp) s⟩

@[simp] theorem referenceStep_keeps (s : State) :
    (referenceStep s).clock = s.clock ∧ (referenceStep s).pending = s.pending := by
  unfold referenceStep
  dsimp only
  split <;> simp

@[simp] theorem coilTested_keeps (s : State) (k : Coil) (kind : TestKind) (x : TestResult) :
    (coilTested k kind x s).clock = s.clock ∧ (coilTested k kind x s).pending = s.pending := by
  simp [coilTested]

@[simp] theorem onCheck_keeps (s : State) (k : Coil) (below : Bool) :
    (onCheck k below s).clock = s.clock ∧ (onCheck k below s).pending = s.pending := by
  unfold onCheck
  dsimp only
  split <;> simp

@[simp] theorem patrolStep_keeps (s : State) (x : TestResult) :
    (patrolStep x s).clock = s.clock ∧ (patrolStep x s).pending = s.pending := by
  unfold patrolStep
  dsimp only
  split <;> simp

/-! ## Events and the hard reset -/

/-- An event whose blocks leave the clock and the waiting commands lets its own time pass and no more. -/
theorem event_answers {f : State → State} (dt : Delay) (s : State)
    (h : ∀ s, (f s).clock = s.clock ∧ (f s).pending = s.pending) :
    ∃ t, event dt f s = .next t ∧ t.pending = s.pending ∧ t.clock = s.clock.advance dt :=
  ⟨_, rfl, by simp [h], by simp [h]⟩

/-- The same of a row that acts only where its case holds (log entry 3). -/
theorem event_if_answers {f : State → State} {due : State → Prop} [DecidablePred due] (dt : Delay) (s : State)
    (h : ∀ s, (f s).clock = s.clock ∧ (f s).pending = s.pending) :
    ∃ t, event dt (fun s => if due s then f s else s) s = .next t ∧ t.pending = s.pending ∧
      t.clock = s.clock.advance dt :=
  event_answers dt s fun s => by
    split
    · exact h s
    · exact ⟨rfl, rfl⟩

/-- R179: a hard reset sets the counters to 0; the waiting commands stay. -/
theorem hardReset_clock_pending (s : State) (found : PerSection Found) :
    (hardReset found s).clock = .hard ∧ (hardReset found s).pending = s.pending := by
  simp [hardReset, hardBlocks]

/-! ## Every command (R3, R16, R179) -/

/-- Settles O2: the hard reset from its own blocks, every other command as an event whose blocks keep the clock and the
waiting commands. -/
theorem everyCommandAnswers : Obligations.EveryCommandAnswers := by
  unfold Obligations.EveryCommandAnswers
  intro c s
  cases c with
  | hardReset found =>
    obtain ⟨hclock, hpending⟩ := hardReset_clock_pending s found
    exact ⟨_, rfl, hpending, hclock⟩
  -- a command frame taken on a port
  | demand dt | resumeElectric dt | clearPassthrough dt | jointReset dt | channelRestore dt | clearFirst dt
  | commitBrake dt | stage dt | confirmBrake dt | discardBrake dt | commitTyre dt | liftRequest dt | learn dt
  | unbind dt | tyreAckSet dt | tyreAckClear dt | clearInactive dt | calOpen dt | calCapture dt | calApply dt
  | calRevert dt | calClose dt | snapshotInterval dt | readRecord dt | identify dt | subscribeSet dt
  | subscribeClear dt | takeEvents dt | peekEvents dt | portReset dt =>
    dsimp only [exec, Instr.delay]
    exact event_answers dt s fun s => takeCommand_keeps s _ _ _ _
  -- a row that always acts
  | spiTransactionBegin dt | nullFrame dt | portTResponseSent dt | portTByte dt | analogSample dt | toothEdge dt
  | wheelEvaluation dt | openWireAppear dt | openWireDisappear dt | telegramFramingError dt | referenceEvaluation dt
  | patrolVisit dt =>
    dsimp only [exec, Instr.delay]
    exact event_answers dt s fun s => by simp
  -- a row that acts only in its case
  | portTFrameGap dt | portTFramingError dt | portTFrameDropped dt | inputHoldExpiry dt | settlingBadRunExpiry dt
  | wheelHoldExpiry dt | wheelRecoveryExpiry dt | supplyLowTimerExpiry dt | supplyClearTimerExpiry dt
  | telegramLengthRejected dt | telegramFrame dt | telegramGapTimeout dt | missingDeadlineExpiry dt
  | learnDeadlineExpiry dt | dragTimerExpiry dt | releaseTimerExpiry dt | raiseTimeout dt | lowerTimeout dt
  | autoTimerExpiry dt | buttonDebounced dt | freshnessDeadlineExpiry dt | holdDeadlineExpiry dt
  | resumeWindowComplete dt | mismatchTimerExpiry dt | supplyLowTimer1000 dt | dumpDeadlineExpiry dt
  | antilockHoldExpiry dt | reapplyStep dt | trackingTimeReached dt | safeHoldExpiry dt | convergeTimeout dt
  | onCheckExpiry dt | overcurrent dt | probeDeadlineExpiry dt | quietTimerComplete dt | recoveryStep dt
  | commitExpiry dt | snapshotTimerExpiry dt | jointResetWindowClose dt =>
    dsimp only [exec, Instr.delay]
    exact event_if_answers dt s fun s => by simp
  -- a row that acts in either case
  | badFrame dt | buttonInputChange dt | telegramLineByte dt | storeWriteEnd dt =>
    dsimp only [exec, Instr.delay]
    exact event_answers dt s fun s => by split <;> simp

end Sys2Proof.Machine
end
